-- ==== Sys2Proof/Config.lean ====
section
/-! DEFINITION. The implementation parameters of spec 00_scope.md R8 at the values of "this hardware", and the
values the spec leaves to the environment or leaves OPEN, which are constants without a body. -/

namespace Sys2Proof

/-- `N`, samples per SampleWindow (R8, R9). -/
abbrev Config.nSamples : Nat := 5

/-- `DIGITS`, digits driven by the DigitRenderer (R8). -/
abbrev Config.digits : Nat := 4

/-- `NBTN`, the number of buttons (R8). -/
abbrev Config.nButtons : Nat := 3

/-- `TICK_MOD`, modulus of ElapsedTicks (R8, R92). -/
abbrev Config.tickMod : Nat := 10000

/-- `TICK_W`, storage width of TICKS in bits (R8, R16). -/
abbrev Config.tickWidth : Nat := 14

/-- `IDX_W` for a window of `n` slots: ceil(log2 n), at least 1 (R8). -/
def Config.idxWidth (n : Nat) : Nat := max 1 (Nat.clog 2 n)

/-- `DWELL` in microseconds, reference 2.5 ms (R8, R134). Timing only: no operation reads it. -/
abbrev Config.dwell : Nat := 2500

/-- `UPDATE_TIME` in microseconds: OPEN in the spec (R8, R134, D26), so nothing fixes it. Timing only. -/
opaque Config.updateTime : Nat

/-- `RELEASE_POLL_DELAY` in microseconds: OPEN in the spec (R8, R134, D26), so nothing fixes it. Timing only. -/
opaque Config.releasePollDelay : Nat

/-- A raw button sample the environment gives where the state lists no answer: the free value of R34 ("A model draws
the value of each read freely from {false, true}, under no law"), applied to the number of the read. -/
opaque Config.rawSample : Nat → Bool

/-- The level of RST at a step slot for which the state lists none: a free value, for the environment may assert RST at
any time (R117), applied to the number of the slot. -/
opaque Config.rstLevel : Nat → Bool

end Sys2Proof
end

