-- ==== Sys2Proof/Syntax.lean ====
section
/-! DEFINITION. The operations of SWCORE, one constructor per row of spec/opcode_table.json, their written forms
(30_encoding.md R62), and the stimulus programs of R63 and R64. -/

namespace Sys2Proof

/-- ButtonId, in the source's listing order (R13). -/
inductive ButtonId where
  | start
  | stop
  | reset
deriving DecidableEq, Repr

/-- The index value of a ButtonId (R13): Start 0, Stop 1, Reset 2. -/
def ButtonId.index : ButtonId → Fin Config.nButtons
  | .start => 0
  | .stop => 1
  | .reset => 2

/-- The name of a button in the written forms of R62. -/
def ButtonId.written : ButtonId → String
  | .start => "Start"
  | .stop => "Stop"
  | .reset => "Reset"

/-- A digit position `k` in 0..DIGITS-1, 0 the least significant (R53, R77). -/
abbrev DigitPos := Fin Config.digits

/-- The operations of SWCORE (R3), which the spec treats as its instructions. -/
inductive Instr where
  /-- CTL.RENDER k (R88). -/
  | ctlRender (k : DigitPos)
  /-- CTL.UPDATE (R89). -/
  | ctlUpdate
  /-- CTL.AWAIT_START (R90). -/
  | ctlAwaitStart
  /-- CTL.AWAIT_RESET (R91). -/
  | ctlAwaitReset
  /-- DEB.HOLD b (R68). -/
  | debHold (b : ButtonId)
  /-- DEB.SAMPLE b, raw (R69). -/
  | debSample (b : ButtonId) (raw : Bool)
  /-- DEB.CLEAR b (R70). -/
  | debClear (b : ButtonId)
  /-- DR.RENDER v, k (R82); `v` is any unsigned value (R77). -/
  | drRender (v : Nat) (k : DigitPos)
deriving DecidableEq, Repr

/-- The mnemonic of an operation, as spec/opcode_table.json spells it. -/
def Instr.mnemonic : Instr → String
  | .ctlRender _ => "CTL.RENDER"
  | .ctlUpdate => "CTL.UPDATE"
  | .ctlAwaitStart => "CTL.AWAIT_START"
  | .ctlAwaitReset => "CTL.AWAIT_RESET"
  | .debHold _ => "DEB.HOLD"
  | .debSample _ _ => "DEB.SAMPLE"
  | .debClear _ => "DEB.CLEAR"
  | .drRender _ _ => "DR.RENDER"

/-- A boolean as the written forms and the stored bits have it: false = 0, true = 1 (R10, R62). -/
def bitWritten (v : Bool) : String := if v then "1" else "0"

/-- The written form of an operation (R62). -/
def Instr.written (i : Instr) : String :=
  match i with
  | .ctlRender k => i.mnemonic ++ " " ++ toString k.val
  | .ctlUpdate => i.mnemonic
  | .ctlAwaitStart => i.mnemonic
  | .ctlAwaitReset => i.mnemonic
  | .debHold b => i.mnemonic ++ " " ++ b.written
  | .debSample b raw => i.mnemonic ++ " " ++ b.written ++ ", " ++ bitWritten raw
  | .debClear b => i.mnemonic ++ " " ++ b.written
  | .drRender v k => i.mnemonic ++ " " ++ toString v ++ ", " ++ toString k.val

/-- A line of a stimulus program (R63): the environment's answers to the reads of one refresh cycle, or of one
release-wait step. -/
inductive Line where
  | cycle (s p r : Bool)
  | poll (v : Bool)
deriving DecidableEq, Repr

/-- The pseudo-lines of R64; a plain line stands for itself. -/
inductive PseudoLine where
  | line (l : Line)
  | cycleTimes (n : Nat) (s p r : Bool)
  | idle (n : Nat)
  | press (n : Nat) (b : ButtonId)
  | release
  | held
deriving DecidableEq, Repr

/-- A line's input word `IN` (R63): `IN[2:0] = {r, p, s}` for CYCLE, `IN[0] = v` for POLL. -/
def Line.inWord : Line → BitVec 3
  | .cycle s p r => BitVec.ofBool r ++ BitVec.ofBool p ++ BitVec.ofBool s
  | .poll v => (BitVec.ofBool v).setWidth 3

/-- The answers a line gives, in the order of the reads (R39, R63). -/
def Line.answers : Line → List Bool
  | .cycle s p r => [s, p, r]
  | .poll v => [v]

/-- The number of steps a line spans (R63): a refresh cycle is DIGITS + 1 steps (R86). -/
def Line.steps : Line → Nat
  | .cycle _ _ _ => Config.digits + 1
  | .poll _ => 1

/-- The expansion of a pseudo-line (R64). -/
def PseudoLine.expand : PseudoLine → List Line
  | .line l => [l]
  | .cycleTimes n s p r => List.replicate n (.cycle s p r)
  | .idle n => List.replicate n (.cycle false false false)
  | .press n b => List.replicate n (.cycle (b == .start) (b == .stop) (b == .reset))
  | .release => [.poll false]
  | .held => [.poll true]

end Sys2Proof
end

