-- ==== Sys2Proof/WellFormed.lean ====
section
/-! DEFINITION. Which terms fit the formats of 30_encoding.md. The other operands are well formed by their types:
a digit position is below DIGITS, a button is one of three, RAW is one bit (R75: "no notion of a malformed input"). -/

namespace Sys2Proof

/-- An operation fits its format (R51 to R53, R61). The one check: the value operand V of DR.RENDER fits the
TICK_W = 14 wires that R53 gives it in SWCORE. Log entry 10 (DEDUCED): the meaning of DR.RENDER covers every `v`. -/
def Instr.wellFormed : Instr → Bool
  | .ctlRender _ => true
  | .ctlUpdate => true
  | .ctlAwaitStart => true
  | .ctlAwaitReset => true
  | .debHold _ => true
  | .debSample _ _ => true
  | .debClear _ => true
  | .drRender v _ => decide (v < 2 ^ Config.tickWidth)

/-- A pseudo-line is well formed: a repeat count is at least 1 (R64). -/
def PseudoLine.wellFormed : PseudoLine → Bool
  | .line _ => true
  | .cycleTimes n _ _ _ => decide (1 ≤ n)
  | .idle n => decide (1 ≤ n)
  | .press n _ => decide (1 ≤ n)
  | .release => true
  | .held => true

end Sys2Proof
end

