-- ==== Sys2Proof/Word.lean ====
section
/-! DEFINITION. The words SWCORE carries on wires (spec 00_scope.md R10, 30_encoding.md R51 to R53): all unsigned,
bit 0 least significant. -/

namespace Sys2Proof

/-- An 8-bit output port value (R33: `SEG_W` and `SEL_W` are 8). -/
abbrev Byte := BitVec 8

/-- The controller's selector word `SELW = {AWAIT[1:0], PHASE[2:0]}` (R20, R51). -/
abbrev SelWord := BitVec 5

/-- The field `AWAIT`, bits 4:3 of SELW (R51). -/
abbrev AwaitField := BitVec 2

/-- The field `PHASE`, bits 2:0 of SELW (R51). -/
abbrev PhaseField := BitVec 3

/-- AWAIT = NONE: not waiting (R18). -/
abbrev awaitNone : AwaitField := 0b00#2

/-- AWAIT = START: waiting until the Start input reads released (R18). -/
abbrev awaitStart : AwaitField := 0b01#2

/-- AWAIT = RESET: waiting until the Reset input reads released (R18). -/
abbrev awaitReset : AwaitField := 0b10#2

end Sys2Proof
end

