-- ==== Sys2Proof/Decode.lean ====
section
/-! DEFINITION. Decoding and encoding of the three formats SELW, DEBCTL and DRSEL (30_encoding.md R51 to R59). None
is fetched from memory; each is a set of control signals on wires of its own, so a control word names its format.
Log entry 1 (DESIGN CHOICE). -/

namespace Sys2Proof

/-- The control signals of one operation, by format. -/
inductive ControlWord where
  /-- Format SELW (R51). -/
  | selw (w : SelWord)
  /-- Format DEBCTL of the instance wired to button `b`: `ctl = {CLR, SMP}` and the data bit RAW (R52, R57). -/
  | debctl (b : ButtonId) (ctl : BitVec 2) (raw : Bool)
  /-- Format DRSEL: `K` and the value wires `V` (R53). -/
  | drsel (k : BitVec 2) (v : BitVec Config.tickWidth)
deriving DecidableEq, Repr

/-- Why a control word is no operation. -/
inductive DecodeReject where
  /-- A SELW value that no row of R54 matches (R58). -/
  | illegalSelector (w : SelWord)
  /-- DEBCTL = 11 given to the Debouncer of `b` (R59). -/
  | debCtlReserved (b : ButtonId)
deriving DecidableEq, Repr

/-- Decoding SELW, row by row of R54 (match and mask as in the table). -/
def decodeSelw (w : SelWord) : Except DecodeReject Instr :=
  if w &&& 0b11100#5 = 0b00000#5 then .ok (.ctlRender (w.extractLsb' 0 2).toFin)
  else if w &&& 0b11111#5 = 0b00100#5 then .ok .ctlUpdate
  else if w &&& 0b11111#5 = 0b01000#5 then .ok .ctlAwaitStart
  else if w &&& 0b11111#5 = 0b10000#5 then .ok .ctlAwaitReset
  else .error (.illegalSelector w)

/-- Decoding DEBCTL (R55): 00 HOLD, 01 SAMPLE with RAW, 10 CLEAR, 11 reserved. -/
def decodeDebctl (b : ButtonId) (ctl : BitVec 2) (raw : Bool) : Except DecodeReject Instr :=
  if ctl = 0b00#2 then .ok (.debHold b)
  else if ctl = 0b01#2 then .ok (.debSample b raw)
  else if ctl = 0b10#2 then .ok (.debClear b)
  else .error (.debCtlReserved b)

/-- Decoding DRSEL (R56): every value of K is DR.RENDER of digit K of V. -/
def decodeDrsel (k : BitVec 2) (v : BitVec Config.tickWidth) : Instr :=
  .drRender v.toNat k.toFin

/-- Decoding, total on every control word, rejecting by name. -/
def decode : ControlWord → Except DecodeReject Instr
  | .selw w => decodeSelw w
  | .debctl b ctl raw => decodeDebctl b ctl raw
  | .drsel k v => .ok (decodeDrsel k v)

/-- The control signals of a well-formed operation (R51 to R53, R57). RAW is driven 0 where it is ignored:
log entry 11 (DESIGN CHOICE). -/
def encode : Instr → ControlWord
  | .ctlRender k => .selw (0b000#3 ++ BitVec.ofNat 2 k.val)
  | .ctlUpdate => .selw 0b00100#5
  | .ctlAwaitStart => .selw 0b01000#5
  | .ctlAwaitReset => .selw 0b10000#5
  | .debHold b => .debctl b 0b00#2 false
  | .debSample b raw => .debctl b 0b01#2 raw
  | .debClear b => .debctl b 0b10#2 false
  | .drRender v k => .drsel (BitVec.ofNat 2 k.val) (BitVec.ofNat Config.tickWidth v)

/-- The bits of a control word that spec/opcode_table.json numbers, bit 0 first: SELW[4:0], {CLR, SMP}, or K. -/
def ControlWord.tableBits : ControlWord → Nat
  | .selw w => w.toNat
  | .debctl _ ctl _ => ctl.toNat
  | .drsel k _ => k.toNat

/-- The `match` and `mask` that spec/opcode_table.json gives an operation's row. -/
def Instr.tableMatch : Instr → Nat × Nat
  | .ctlRender _ => (0b00000, 0b11100)
  | .ctlUpdate => (0b00100, 0b11111)
  | .ctlAwaitStart => (0b01000, 0b11111)
  | .ctlAwaitReset => (0b10000, 0b11111)
  | .debHold _ => (0b00, 0b11)
  | .debSample _ _ => (0b01, 0b11)
  | .debClear _ => (0b10, 0b11)
  | .drRender _ _ => (0b00, 0b00)

/-- The selector word in the table's bits of a stored word, if it fits the 5 bits of SELW. -/
def tableSelw (nbits w : Nat) : Option SelWord :=
  let v := w % 2 ^ nbits
  if v < 2 ^ 5 then some (BitVec.ofNat 5 v) else none

/-- The operation a step's decoder reads from a bare word of the opcode table. A bare word does not name its format,
and the only format a step decodes is SELW (R87), so the word is read as SELW. Log entry 1 (DESIGN CHOICE). -/
def decodeTableWord (nbits w : Nat) : Option Instr :=
  match tableSelw nbits w with
  | some sel => (decode (.selw sel)).toOption
  | none => none

end Sys2Proof
end

