-- ==== Sys2Proof/Machine/State.lean ====
section
/-! DEFINITION. The state of SWCORE (10_state.md), as plain data, its value right after hardware reset
(70_reset_and_hazards.md R121), and the outcomes that are not a next state (60_exceptions.md R107). -/

namespace Sys2Proof.Machine

/-- StopwatchState, the register RUN (R17): "Exactly one holds at any time." -/
inductive RunState where
  | stopped
  | running
deriving DecidableEq, Repr

/-- The encoding of RUN (R17). -/
def RunState.toBit : RunState → BitVec 1
  | .stopped => 0
  | .running => 1

/-- The state of one Debouncer with a window of `N` slots: `WIN[b][0..N-1]` and `IDX[b]`, "and nothing else"
(R66). The index is below `N` by its type (R22). -/
structure Debouncer (N : Nat) where
  win : Vector Bool N
  idx : Fin N
deriving DecidableEq, Repr

/-- The registers of R14, "exactly the registers in the table below, and nothing else". TICKS is a number below
TICK_MOD by its type (R16). AWAIT and PHASE are the bit fields of SELW (R20), so that a selector no operation
matches can be held and faults (R58). -/
structure Regs where
  ticks    : Fin Config.tickMod
  run      : RunState
  await    : AwaitField
  phase    : PhaseField
  debStart : Debouncer Config.nSamples
  debStop  : Debouncer Config.nSamples
  debReset : Debouncer Config.nSamples
  segOut   : Byte
  selOut   : Byte
deriving DecidableEq, Repr

/-- One event of the observation. Log entry 5 (DESIGN CHOICE). -/
inductive Event where
  /-- The two port writes of one CTL.RENDER, one atomic event (R36, R37, R133). -/
  | portWrite (seg sel : Byte)
  /-- One READ_BTN of button `b` that returned `v` (R11, R34). -/
  | read (b : ButtonId) (v : Bool)
deriving DecidableEq, Repr

/-- The registers of SWCORE, beside the block's inputs and its observation, which are the model's own fields:
`rst` the level of RST at each coming step slot, and `slots` the number of step slots spent, to which the free value
`Config.rstLevel` is applied past the list (R33, R117, R121; log entry 4, DESIGN CHOICE);
`answers` the environment's coming answers to READ_BTN, and `reads` the number of READ_BTN made, to which the free
value `Config.rawSample` is applied past the list (R34; log entry 3, DESIGN CHOICE);
`events` the observation, newest first (R36; log entry 5, DESIGN CHOICE);
`returned` the pair that the last DR.RENDER performed as an operation of its own returned (R82; log entry 6,
DESIGN CHOICE). -/
structure State where
  regs     : Regs
  rst      : List Bool
  slots    : Nat
  answers  : List Bool
  reads    : Nat
  events   : List Event
  returned : Option (Byte × Byte)
deriving DecidableEq, Repr

/-- Why the machine stops with a fault. A fault is a stop of the model, never an event of the hardware (R107). -/
inductive Fault where
  /-- Code 1, IllegalSelector (R58, R107): raised by the step on a SELW value no operation matches. Safe: no such
  value is reachable from hardware reset, and the model gives it no meaning. -/
  | illegalSelector (selw : SelWord)
deriving DecidableEq, Repr

/-- Why the model refuses. -/
inductive Refusal where
  /-- An instruction without a meaning, rejected by name. Safe. No arm answers it. -/
  | notModelled (mnemonic : String)
  /-- Code 2, DebCtlReserved (R59, R107): raised by the Debouncer of `b` given DEBCTL = 11. Safe: the controller never
  drives it. -/
  | debCtlReserved (b : ButtonId)
  /-- Code 3, SegDigitOutOfRange (R80, R107): raised by the segment encoder on its own given `d` ≥ 10. Safe: no digit
  inside SWCORE is above 9. -/
  | segDigitOutOfRange (d : Nat)
  /-- Code 4, StimulusMismatch (R65, R107): raised by a stimulus program whose line `line` does not match the selected
  operation. Safe: it does not describe a run. -/
  | stimulusMismatch (line : Nat)
deriving DecidableEq, Repr

/-- The code of a fault (R107). -/
def Fault.code : Fault → Nat
  | .illegalSelector _ => 1

/-- The code of a refusal (R107); an instruction without a meaning has none. -/
def Refusal.code : Refusal → Option Nat
  | .notModelled _ => none
  | .debCtlReserved _ => some 2
  | .segDigitOutOfRange _ => some 3
  | .stimulusMismatch _ => some 4

/-- A Debouncer after hardware reset: every slot false, the index 0 (R121). -/
def Debouncer.reset (N : Nat) (h : 0 < N) : Debouncer N :=
  { win := Vector.replicate N false, idx := ⟨0, h⟩ }

/-- Every register at its reset value (R121). -/
def Regs.reset : Regs where
  ticks := ⟨0, by decide⟩
  run := .stopped
  await := awaitNone
  phase := 0
  debStart := .reset Config.nSamples (by decide)
  debStop := .reset Config.nSamples (by decide)
  debReset := .reset Config.nSamples (by decide)
  segOut := 0x00
  selOut := 0x00

/-- The machine right after hardware reset (R121), with no listed level of RST, no listed answer and nothing observed
(log entries 3 to 6, DESIGN CHOICE). -/
def State.reset : State where
  regs := .reset
  rst := []
  slots := 0
  answers := []
  reads := 0
  events := []
  returned := none

end Sys2Proof.Machine
end

