-- ==== Sys2Proof/Machine/Flags.lean ====
section
/-! DEFINITION. The status signals of SWCORE (10_state.md R29): the consensus voter of a Debouncer
(40_debouncer.md R71). They are derived from the window and never stored. -/

namespace Sys2Proof.Machine

/-- COUNT[b], the number of set slots (R71). -/
def Debouncer.count {N : Nat} (d : Debouncer N) : Nat := d.win.toList.count true

/-- CONF[b]: COUNT[b] = N (R71). -/
def Debouncer.conf {N : Nat} (d : Debouncer N) : Bool := d.count == N

end Sys2Proof.Machine
end

