-- ==== Sys2Proof/Machine/Operands.lean ====
section
/-! DEFINITION. The operand functions of the DigitRenderer (41_digit_renderer.md): the BCD decoder, the segment
encoder, the digit multiplexer, and the pair DR.RENDER returns. -/

namespace Sys2Proof.Machine

/-- The BCD decoder (R77): digit `k` of the unsigned value `v`, always in 0..9 (R78). -/
def digit (v : Nat) (k : DigitPos) : Fin 10 :=
  ⟨v / 10 ^ k.val % 10, Nat.mod_lt _ (by decide)⟩

/-- SEGTAB, the segment encoding table (R79). -/
def segTab : Fin 10 → Byte
  | 0 => 0x3F | 1 => 0x06 | 2 => 0x5B | 3 => 0x4F | 4 => 0x66
  | 5 => 0x6D | 6 => 0x7D | 7 => 0x07 | 8 => 0x7F | 9 => 0x6F

/-- The segment encoder on its own (R80): it refuses a digit of 10 or more. -/
def segEncode (d : Nat) : Except Refusal Byte :=
  if h : d < 10 then .ok (segTab ⟨d, h⟩) else .error (.segDigitOutOfRange d)

/-- MASK, the digit multiplexer (R81): the least significant digit selects bit 3 (conflict C4). -/
def selMask : DigitPos → Byte
  | 0 => 0x08 | 1 => 0x04 | 2 => 0x02 | 3 => 0x01

/-- The pair (pattern, mask) that DR.RENDER v, k returns (R82). -/
def renderPair (v : Nat) (k : DigitPos) : Byte × Byte :=
  (segTab (digit v k), selMask k)

/-- The render sequence `render(value, digit_count: 4)` (R83): the pairs for k = 0, 1, 2, 3. -/
def renderSequence (v : Nat) : List (Byte × Byte) :=
  (List.finRange Config.digits).map (renderPair v)

end Sys2Proof.Machine
end

