-- ==== Sys2Proof/Machine/Ops.lean ====
section
/-! DEFINITION. The named operations over the registers, the inputs and the observation: every read and write of a
meaning goes through them. -/

namespace Sys2Proof.Machine

/-- DEB.SAMPLE on one Debouncer (R69): write the slot at the index, then advance the index modulo N. -/
def Debouncer.sample {N : Nat} (d : Debouncer N) (raw : Bool) : Debouncer N :=
  { win := d.win.set d.idx raw
    idx := ⟨(d.idx.val + 1) % N, Nat.mod_lt _ (Nat.lt_of_le_of_lt (Nat.zero_le _) d.idx.isLt)⟩ }

/-- DEB.CLEAR on one Debouncer (R70): every slot false, the index kept. -/
def Debouncer.clear {N : Nat} (d : Debouncer N) : Debouncer N :=
  { d with win := Vector.replicate N false }

/-- The selector word SELW = {AWAIT, PHASE} (R20). -/
def Regs.selw (r : Regs) : SelWord := r.await ++ r.phase

/-- The Debouncer instance of a button (R66). -/
def Regs.deb (r : Regs) : ButtonId → Debouncer Config.nSamples
  | .start => r.debStart
  | .stop => r.debStop
  | .reset => r.debReset

/-- Replace the Debouncer instance of a button. -/
def Regs.setDeb (r : Regs) (b : ButtonId) (d : Debouncer Config.nSamples) : Regs :=
  match b with
  | .start => { r with debStart := d }
  | .stop => { r with debStop := d }
  | .reset => { r with debReset := d }

/-- What an observer outside the block sees: the outputs SEG and SEL, driven from the latches (R30, R33). -/
def Regs.ports (r : Regs) : Byte × Byte := (r.segOut, r.selOut)

/-- TICKS <- v. -/
def State.setTicks (s : State) (v : Fin Config.tickMod) : State := { s with regs := { s.regs with ticks := v } }

/-- RUN <- v. -/
def State.setRun (s : State) (v : RunState) : State := { s with regs := { s.regs with run := v } }

/-- AWAIT <- v. -/
def State.setAwait (s : State) (v : AwaitField) : State := { s with regs := { s.regs with await := v } }

/-- PHASE <- v. -/
def State.setPhase (s : State) (v : PhaseField) : State := { s with regs := { s.regs with phase := v } }

/-- Write the state of DEB[b]. -/
def State.setDeb (s : State) (b : ButtonId) (d : Debouncer Config.nSamples) : State :=
  { s with regs := s.regs.setDeb b d }

/-- SELW <- w: both of its fields. -/
def State.setSelw (s : State) (w : SelWord) : State :=
  (s.setAwait (w.extractLsb' 3 2)).setPhase (w.extractLsb' 0 3)

/-- WRITE_SEG and WRITE_SEL of one step: both latches change together, and the write is an event even where the value
is the one already held (R36, R37). -/
def State.writePorts (s : State) (p : Byte × Byte) : State :=
  { s with regs := { s.regs with segOut := p.1, selOut := p.2 }, events := .portWrite p.1 p.2 :: s.events }

/-- The value the `n`-th coming READ_BTN returns: the listed answer, or past the list the free value (R34). -/
def State.peek (s : State) (n : Nat) : Bool := s.answers.getD n (Config.rawSample (s.reads + n))

/-- READ_BTN(b): the state after one fresh read, whose value is `s.peek 0`. No register is written (R34). -/
def State.afterRead (s : State) (b : ButtonId) : State :=
  { s with answers := s.answers.tail, reads := s.reads + 1, events := .read b (s.peek 0) :: s.events }

/-- Issue DEB.HOLD to DEB[b]: no state changes (R68). -/
def State.holdDeb (s : State) (b : ButtonId) : State := s.setDeb b (s.regs.deb b)

/-- Issue DEB.SAMPLE b, raw (R69). -/
def State.sampleDeb (s : State) (b : ButtonId) (raw : Bool) : State := s.setDeb b ((s.regs.deb b).sample raw)

/-- Issue DEB.CLEAR b (R70). -/
def State.clearDeb (s : State) (b : ButtonId) : State := s.setDeb b (s.regs.deb b).clear

/-- The confirmed signal CONF[b] (R71). -/
def State.conf (s : State) (b : ButtonId) : Bool := (s.regs.deb b).conf

/-- TICKS + 1 modulo TICK_MOD (R92). -/
def nextTicks (v : Fin Config.tickMod) : Fin Config.tickMod :=
  ⟨(v.val + 1) % Config.tickMod, Nat.mod_lt _ (by decide)⟩

/-- Keep the pair a DR.RENDER performed as an operation of its own returns. Log entry 6 (DESIGN CHOICE). -/
def State.returnPair (s : State) (p : Byte × Byte) : State := { s with returned := some p }

/-- Hardware reset: every register takes its reset value, all at once (R121). The inputs and the observation are no
registers and stay. -/
def State.hardwareReset (s : State) : State := { s with regs := Regs.reset }

/-- The level of RST at the `n`-th coming step slot: the listed level, or past the list the free value (R117). Log entry
4 (DESIGN CHOICE). -/
def State.rstAt (s : State) (n : Nat) : Bool := s.rst.getD n (Config.rstLevel (s.slots + n))

/-- RST is asserted at the coming step slot (R121). -/
def State.rstAsserted (s : State) : Bool := s.rstAt 0

/-- The step slot's level of RST is spent (log entry 4, DESIGN CHOICE). -/
def State.nextRst (s : State) : State := { s with rst := s.rst.tail, slots := s.slots + 1 }

/-- RST released at the `n` coming step slots, the later slots as they were. -/
def State.releaseRst (s : State) (n : Nat) : State := { s with rst := List.replicate n false ++ s.rst.drop n }

/-- The state in which the coming step's selector is the table word `w` (a word that does not fit SELW selects the
reserved selector 11111), RST released for that step. Log entry 14. -/
def State.selectWord (s : State) (nbits w : Nat) : State :=
  (s.releaseRst 1).setSelw ((tableSelw nbits w).getD 0b11111#5)

end Sys2Proof.Machine
end

