-- ==== Sys2Proof/Machine/Controller.lean ====
section
/-! DEFINITION. The meanings of the controller's operations (42_controller.md). A meaning performs its operation as
its rule writes it; that the selector chose it is the step's concern (log entry 15). -/

namespace Sys2Proof.Machine

/-- CTL.RENDER k (R88): the pair of DR.RENDER TICKS, k goes to the ports, and PHASE <- k + 1. -/
def execCtlRender (k : DigitPos) (s : State) : Host.Outcome State Fault Refusal :=
  .next ((s.writePorts (renderPair s.regs.ticks.val k)).setPhase (BitVec.ofNat 3 (k.val + 1)))

/-- Source step 2 of CTL.UPDATE: the elapsed-time accumulator (R92). -/
def State.tick (s : State) : State :=
  match s.regs.run with
  | .running => s.setTicks (nextTicks s.regs.ticks)
  | .stopped => s

/-- One fresh read of button `b`, sampled into its own Debouncer (R93). -/
def State.sampleButton (s : State) (b : ButtonId) : State := (s.afterRead b).sampleDeb b (s.peek 0)

/-- Source step 3 of CTL.UPDATE: the three reads and samples in the order Start, Stop, Reset (R39, R93). -/
def State.sampleButtons (s : State) : State :=
  ((s.sampleButton .start).sampleButton .stop).sampleButton .reset

/-- The Start transition (R95). -/
def State.startTransition (s : State) : State :=
  (((s.setRun .running).clearDeb .start).clearDeb .stop).setAwait awaitStart

/-- The Stop transition (R96): no release-wait. -/
def State.stopTransition (s : State) : State := (s.setRun .stopped).clearDeb .stop

/-- The Reset transition (R97): only Stop's window is cleared (conflict C1). -/
def State.resetTransition (s : State) : State :=
  (((s.setRun .stopped).setTicks ⟨0, by decide⟩).clearDeb .stop).setAwait awaitReset

/-- Source step 4 of CTL.UPDATE: at most one transition, Reset first, then the one RUN admits (R94, R98). -/
def State.transition (s : State) : State :=
  match s.conf .reset, s.regs.run, s.conf .start, s.conf .stop with
  | true, _, _, _ => s.resetTransition
  | false, .stopped, true, _ => s.startTransition
  | false, .running, _, true => s.stopTransition
  | false, .stopped, false, _ => s
  | false, .running, _, false => s

/-- CTL.UPDATE (R89). -/
def execCtlUpdate (s : State) : Host.Outcome State Fault Refusal :=
  .next (s.tick.sampleButtons.transition.setPhase 0)

/-- One poll of the release-wait on button `b`: a read of released ends the wait (R90, R91, R100). -/
def State.pollRelease (s : State) (b : ButtonId) : State :=
  match s.peek 0 with
  | true => s.afterRead b
  | false => (s.afterRead b).setAwait awaitNone

/-- CTL.AWAIT_START (R90). -/
def execCtlAwaitStart (s : State) : Host.Outcome State Fault Refusal := .next (s.pollRelease .start)

/-- CTL.AWAIT_RESET (R91). -/
def execCtlAwaitReset (s : State) : Host.Outcome State Fault Refusal := .next (s.pollRelease .reset)

end Sys2Proof.Machine
end

