-- ==== Sys2Proof/Machine/Debouncer.lean ====
section
/-! DEFINITION. The meanings of the Debouncer's operations (40_debouncer.md R68 to R70), each issued to the instance
of one button. Inside a step they happen only in CTL.UPDATE (R67); log entry 2. -/

namespace Sys2Proof.Machine

/-- DEB.HOLD b (R68). -/
def execDebHold (b : ButtonId) (s : State) : Host.Outcome State Fault Refusal := .next (s.holdDeb b)

/-- DEB.SAMPLE b, raw (R69). -/
def execDebSample (b : ButtonId) (raw : Bool) (s : State) : Host.Outcome State Fault Refusal :=
  .next (s.sampleDeb b raw)

/-- DEB.CLEAR b (R70). -/
def execDebClear (b : ButtonId) (s : State) : Host.Outcome State Fault Refusal := .next (s.clearDeb b)

end Sys2Proof.Machine
end

