-- ==== Sys2Proof/Machine/Renderer.lean ====
section
/-! DEFINITION. The meaning of the DigitRenderer's operation DR.RENDER (41_digit_renderer.md R82). -/

namespace Sys2Proof.Machine

/-- DR.RENDER v, k (R82): no register is written; the pair it returns is kept in `returned` (log entry 6). -/
def execDrRender (v : Nat) (k : DigitPos) (s : State) : Host.Outcome State Fault Refusal :=
  .next (s.returnPair (renderPair v k))

end Sys2Proof.Machine
end

