-- ==== Sys2Proof/Machine/Dispatch.lean ====
section
/-! DEFINITION. One arm per operation of spec/opcode_table.json, each a direct call of its meaning. -/

namespace Sys2Proof.Machine

def exec (i : Instr) (s : State) : Host.Outcome State Fault Refusal :=
  match i with
  | .ctlRender k => Sys2Proof.Machine.execCtlRender k s
  | .ctlUpdate => Sys2Proof.Machine.execCtlUpdate s
  | .ctlAwaitStart => Sys2Proof.Machine.execCtlAwaitStart s
  | .ctlAwaitReset => Sys2Proof.Machine.execCtlAwaitReset s
  | .debHold b => Sys2Proof.Machine.execDebHold b s
  | .debSample b raw => Sys2Proof.Machine.execDebSample b raw s
  | .debClear b => Sys2Proof.Machine.execDebClear b s
  | .drRender v k => Sys2Proof.Machine.execDrRender v k s

end Sys2Proof.Machine
end

