-- ==== Sys2Proof/Machine/Control.lean ====
section
/-! DEFINITION. Driving one control word: decode it and perform the operation, or stop under the name R107 gives
(30_encoding.md R58, R59; 42_controller.md R87). -/

namespace Sys2Proof.Machine

/-- The outcome of a control word that is no operation (R58, R59, R107). -/
def rejectOutcome : DecodeReject → Host.Outcome State Fault Refusal
  | .illegalSelector w => .fault (.illegalSelector w)
  | .debCtlReserved b => .refused (.debCtlReserved b)

/-- Drive a control word of any of the three formats. -/
def driveWord (w : ControlWord) (s : State) : Host.Outcome State Fault Refusal :=
  match decode w with
  | .ok i => exec i s
  | .error r => rejectOutcome r

/-- One step slot (R87, R121): while RST is asserted no operation happens and every register takes its reset value;
otherwise SELW selects the one operation performed. -/
def stepSlot (s : State) : Host.Outcome State Fault Refusal :=
  match s.rstAsserted with
  | true => .next s.nextRst.hardwareReset
  | false => driveWord (.selw s.regs.selw) s.nextRst

end Sys2Proof.Machine
end

