-- ==== Sys2Proof/Machine/Step.lean ====
section
/-! DEFINITION. The step of SWCORE (42_controller.md R87). There is no instruction fetch (R20): SELW selects. -/

namespace Sys2Proof.Machine

/-- One step (R87). -/
def step (s : State) : Host.Outcome State Fault Refusal := stepSlot s

/-- The state in which the coming step performs the operation of a table word: SELW holds it. Log entry 14. -/
def State.withFetchWord (s : State) (nbits w : Nat) : State := s.selectWord nbits w

end Sys2Proof.Machine
end

