-- ==== Sys2Proof/Machine/Stimulus.lean ====
section
/-! DEFINITION. Finite runs (60_exceptions.md R118) and stimulus programs (30_encoding.md R63 to R65), which list the
environment's answers to READ_BTN. -/

namespace Sys2Proof.Machine

/-- `n` steps, stopping at the first that gives no next state. -/
def stepN : Nat → State → Host.Outcome State Fault Refusal
  | 0, s => .next s
  | n + 1, s =>
    match step s with
    | .next t => stepN n t
    | .fault f => .fault f
    | .refused r => .refused r

/-- A line matches the operation SELW selects when it begins (R65): CYCLE needs SELW = 00000, POLL needs
AWAIT ≠ NONE. -/
def lineMatches (l : Line) (r : Regs) : Bool :=
  match l with
  | .cycle _ _ _ => r.selw == 0b00000#5
  | .poll _ => r.await != awaitNone

/-- The SELW values of the steps a line spans, from the selector it begins with (R63). -/
def lineSelectors (l : Line) (r : Regs) : List SelWord :=
  match l with
  | .cycle _ _ _ => (List.range (Config.digits + 1)).map (BitVec.ofNat 5)
  | .poll _ => [r.selw]

/-- The environment will give a line's answers next. A stimulus program says nothing of RST, so it is released at the
line's step slots (log entry 12, DESIGN CHOICE). -/
def State.present (s : State) (l : Line) : State :=
  { s.releaseRst l.steps with answers := l.answers ++ s.answers }

/-- Run line number `n`, or refuse it as StimulusMismatch (R65, R107). -/
def runLine (n : Nat) (l : Line) (s : State) : Host.Outcome State Fault Refusal :=
  match lineMatches l s.regs with
  | true => stepN l.steps (s.present l)
  | false => .refused (.stimulusMismatch n)

/-- Run lines numbered from `n`. -/
def runLines : Nat → List Line → State → Host.Outcome State Fault Refusal
  | _, [], s => .next s
  | n, l :: ls, s =>
    match runLine n l s with
    | .next t => runLines (n + 1) ls t
    | .fault f => .fault f
    | .refused r => .refused r

/-- Run a stimulus program (R63, R64). Lines are numbered from 1 after expansion: log entry 12 (DESIGN CHOICE). R64 asks
n ≥ 1 of a repeat count and names no outcome for 0; here 0 repeats expand to no line and the run goes on: log entry 16
(DESIGN CHOICE). -/
def runStimulus (p : List PseudoLine) (s : State) : Host.Outcome State Fault Refusal :=
  runLines 1 (p.flatMap PseudoLine.expand) s

/-- A stimulus program is well formed against a start state (R64, R65): its repeat counts are at least 1 and no line
mismatches. R65 does not say what a program is whose run faults on an illegal selector: it counts as well formed here,
and its later lines are not checked: log entry 17 (DESIGN CHOICE). -/
def stimulusWellFormed (p : List PseudoLine) (s : State) : Bool :=
  p.all PseudoLine.wellFormed &&
    match runStimulus p s with
    | .refused _ => false
    | .next _ => true
    | .fault _ => true

end Sys2Proof.Machine
end

