-- ==== Sys2Proof/Machine/Timing.lean ====
section
/-! DEFINITION. The durations of 70_reset_and_hazards.md R134 and R135, in microseconds. The machine has no time and
no operation reads one (R41); log entry 13. -/

namespace Sys2Proof.Machine

/-- How long the step of a controller operation lasts (R41). The operations of the Debouncer and the DigitRenderer
are no steps of their own. -/
def stepDuration : Instr → Option Nat
  | .ctlRender _ => some Config.dwell
  | .ctlUpdate => some Config.updateTime
  | .ctlAwaitStart => some Config.releasePollDelay
  | .ctlAwaitReset => some Config.releasePollDelay
  | .debHold _ => none
  | .debSample _ _ => none
  | .debClear _ => none
  | .drRender _ _ => none

/-- The refresh period: dwell time × digit_count (R84, R134). -/
def refreshPeriod : Nat := Config.digits * Config.dwell

/-- The duration of one refresh cycle, and so of one tick (R135). -/
def cycleDuration : Nat := refreshPeriod + Config.updateTime

/-- The nominal debounce latency: N refresh periods (R134). -/
def debounceLatency : Nat := Config.nSamples * refreshPeriod

end Sys2Proof.Machine
end

