-- ==== Sys2Proof/Safety.lean ====
section
/-! DEFINITION. What counts as a safe run of SWCORE, in the terms the statements use: the invariant of the registers,
the sample history of a Debouncer, states alike but for the indices, and how many reads an operation makes. -/

namespace Sys2Proof.Machine

/-- SELW is a value an operation matches (R54); so PHASE is 0 while AWAIT is not NONE (R25). -/
abbrev Regs.SelectorLegal (r : Regs) : Prop :=
  (r.await = awaitNone ∧ r.phase.toNat ≤ 4) ∨ (r.await = awaitStart ∧ r.phase = 0) ∨ (r.await = awaitReset ∧ r.phase = 0)

/-- While AWAIT = START, RUN = Running; while AWAIT = RESET, RUN = Stopped and TICKS = 0 (R25). -/
abbrev Regs.WaitCoherent (r : Regs) : Prop :=
  (r.await = awaitStart → r.run = .running) ∧ (r.await = awaitReset → r.run = .stopped ∧ r.ticks.val = 0)

/-- The ports hold 0x00 only until the first CTL.RENDER; after it a value of SEGTAB and a one-hot mask (R23, R24). -/
abbrev Regs.PortsLegal (r : Regs) : Prop :=
  (r.segOut = 0x00 ∧ r.selOut = 0x00 ∧ r.selw = 0b00000#5) ∨ ((∃ d, r.segOut = segTab d) ∧ ∃ k, r.selOut = selMask k)

/-- Inside a refresh cycle, after CTL.RENDER k, the ports show digit `k` of TICKS (R88). -/
abbrev Regs.DisplayCoherent (r : Regs) : Prop :=
  ∀ k : DigitPos, r.await = awaitNone → r.phase = BitVec.ofNat 3 (k.val + 1) → r.ports = renderPair r.ticks.val k

/-- Between refresh cycles and during a release-wait the ports keep the most significant digit's mask 0x01, once
anything was rendered (R89, R127). -/
abbrev Regs.LastDigitHeld (r : Regs) : Prop :=
  r.phase = 0 → r.selOut = 0x01 ∨ (r.segOut = 0x00 ∧ r.selOut = 0x00 ∧ r.await = awaitNone)

/-- Which windows can be full, and which are clear, at the end of a step (R91, R95, R97, R128). -/
abbrev Regs.WindowsCoherent (r : Regs) : Prop :=
  (r.debReset.conf = true → r.run = .stopped ∧ r.ticks.val = 0) ∧ (r.run = .running → r.debStop.conf = false) ∧
  (r.await = awaitReset → r.debReset.conf = true ∧ r.debStop.win = Vector.replicate Config.nSamples false) ∧
  (r.await = awaitStart → r.debStart.win = Vector.replicate Config.nSamples false ∧
    r.debStop.win = Vector.replicate Config.nSamples false)

/-- The three indices are equal, so they are one shared counter (90_conflicts.md C2). -/
abbrev Regs.IndicesEqual (r : Regs) : Prop := r.debStart.idx = r.debStop.idx ∧ r.debStop.idx = r.debReset.idx

/-- The invariant of the registers. -/
structure Regs.Inv (r : Regs) : Prop where
  selector : r.SelectorLegal
  wait     : r.WaitCoherent
  ports    : r.PortsLegal
  display  : r.DisplayCoherent
  held     : r.LastDigitHeld
  windows  : r.WindowsCoherent
  indices  : r.IndicesEqual

/-- Every register but the Debouncer of `b` is the same: the frame of the Debouncer's operations (R66). -/
structure Regs.SameButDeb (r r' : Regs) (b : ButtonId) : Prop where
  ticks  : r'.ticks = r.ticks
  run    : r'.run = r.run
  await  : r'.await = r.await
  phase  : r'.phase = r.phase
  segOut : r'.segOut = r.segOut
  selOut : r'.selOut = r.selOut
  deb    : ∀ c, c ≠ b → r'.deb c = r.deb c

/-- The last N samples of a Debouncer, newest first: the `j`-th most recent is `WIN[(IDX - j) mod N]` (R72). -/
def Debouncer.ages {N : Nat} (d : Debouncer N) : List Bool :=
  List.ofFn fun j : Fin N => d.win[(d.idx.val + N - (j.val + 1)) % N]'(Nat.mod_lt _ j.pos)

/-- An operation of a Debouncer (R66). -/
inductive DebOp where
  | hold
  | sample (raw : Bool)
  | clear
deriving DecidableEq, Repr

/-- The effect of an operation on one Debouncer (R68, R69, R70). -/
def Debouncer.apply {N : Nat} (d : Debouncer N) : DebOp → Debouncer N
  | .hold => d
  | .sample raw => d.sample raw
  | .clear => d.clear

/-- How an operation extends a sample history, newest first: a clear inserts N false values (R72). -/
def historyStep (N : Nat) (h : List Bool) : DebOp → List Bool
  | .hold => h
  | .sample raw => raw :: h
  | .clear => List.replicate N false ++ h

/-- The sample history after the operations `ops`, oldest operation first, from hardware reset, which inserts N false
values (R72). The newest value stands first. -/
def sampleHistory (N : Nat) (ops : List DebOp) : List Bool := ops.foldl (historyStep N) (List.replicate N false)

/-- The state of a Debouncer after samples, oldest first. -/
def Debouncer.samples {N : Nat} (d : Debouncer N) (raws : List Bool) : Debouncer N := raws.foldl Debouncer.sample d

/-- Two Debouncers with the same last N samples in age order, whatever their indices (R31). -/
def Debouncer.SameHistory {N : Nat} (d e : Debouncer N) : Prop := d.ages = e.ages

/-- Two states alike but for where the windows are rotated (R31). -/
structure State.SameUpToIndex (s t : State) : Prop where
  ticks    : s.regs.ticks = t.regs.ticks
  run      : s.regs.run = t.regs.run
  await    : s.regs.await = t.regs.await
  phase    : s.regs.phase = t.regs.phase
  segOut   : s.regs.segOut = t.regs.segOut
  selOut   : s.regs.selOut = t.regs.selOut
  windows  : ∀ b, (s.regs.deb b).SameHistory (t.regs.deb b)
  rst      : s.rst = t.rst
  slots    : s.slots = t.slots
  answers  : s.answers = t.answers
  reads    : s.reads = t.reads
  events   : s.events = t.events
  returned : s.returned = t.returned

/-- How many READ_BTN an operation makes (R34, R57). -/
def readCount : Instr → Nat
  | .ctlRender _ => 0
  | .ctlUpdate => 3
  | .ctlAwaitStart => 1
  | .ctlAwaitReset => 1
  | .debHold _ => 0
  | .debSample _ _ => 0
  | .debClear _ => 0
  | .drRender _ _ => 0

/-- TICKS after source step 2 of CTL.UPDATE (R92): one more modulo 10000 if Running, else unchanged. -/
def State.ticked (s : State) : Nat :=
  if s.regs.run = .running then (s.regs.ticks.val + 1) % 10000 else s.regs.ticks.val

/-- RST is released at the next `n` step slots. -/
abbrev State.RstReleasedFor (s : State) (n : Nat) : Prop := ∀ j, j < n → s.rstAt j = false

/-- The window a Debouncer has after CTL.UPDATE's sample of it, before any transition (R93): Start takes the first
coming read, Stop the second, Reset the third (R39). -/
def State.sampled (s : State) (b : ButtonId) : Debouncer Config.nSamples := (s.regs.deb b).sample (s.peek b.index.val)

/-- A control word with RAW driven 0 where it is ignored (R52). -/
def canonicalWord : ControlWord → ControlWord
  | .selw w => .selw w
  | .debctl b ctl raw => .debctl b ctl (raw && ctl == 0b01#2)
  | .drsel k v => .drsel k v

end Sys2Proof.Machine
end

