-- ==== Sys2Proof/Certificates/Slice0/Obligations.lean ====
section
/-! DEFINITION. The statements for the provers, formalising the rules of spec/. Nothing is proved here.
How the environment's answers, the level of RST, the observation and the pair of a lone DR.RENDER are held in State is
the model's choice (log entries 3 to 6): `s.peek n` is what the n-th coming READ_BTN returns, `s.rstAsserted` the level
of RST at the coming step slot, `s.rstAt n` that at the n-th coming slot, `s.nextRst` the state with the coming slot
spent, `events` lists the newest event first. -/

open Sys2Proof Sys2Proof.Machine

/-! ### Reset, the step, decoding -/

/-- The reset values, every register's reset value while RST is asserted, and CTL.RENDER 0 as the first step after reset
(R121). That an asserted RST is one step slot with a next state, and that the answers, the count of reads and the
observation stay in it, is the model's choice (log entry 4). -/
def Obligations.HardwareResetValues : Prop :=
  (State.reset.regs.run = .stopped ∧ State.reset.regs.ticks.val = 0 ∧ State.reset.regs.await = 0b00#2 ∧
    State.reset.regs.phase = 0#3 ∧ State.reset.regs.segOut = 0x00#8 ∧ State.reset.regs.selOut = 0x00#8 ∧
    ∀ b, (∀ i (h : i < Config.nSamples), (State.reset.regs.deb b).win[i] = false) ∧ (State.reset.regs.deb b).idx.val = 0) ∧
  (∀ s : State, s.rstAsserted = true → ∃ t, step s = .next t ∧ t.regs = State.reset.regs ∧
    t.answers = s.answers ∧ t.reads = s.reads ∧ t.events = s.events) ∧
  (∀ s : State, s.rstAsserted = false → s.regs = State.reset.regs → step s = exec (.ctlRender 0) s.nextRst)

/-- R87: each step performs the one operation SELW selects, or faults with IllegalSelector(SELW). -/
def Obligations.StepPerformsSelectedOperation : Prop :=
  ∀ s : State, s.rstAsserted = false →
    (∀ k : DigitPos, s.regs.selw = 0b000#3 ++ BitVec.ofNat 2 k.val → step s = exec (.ctlRender k) s.nextRst) ∧
    (s.regs.selw = 0b00100#5 → step s = exec .ctlUpdate s.nextRst) ∧
    (s.regs.selw = 0b01000#5 → step s = exec .ctlAwaitStart s.nextRst) ∧
    (s.regs.selw = 0b10000#5 → step s = exec .ctlAwaitReset s.nextRst) ∧
    ((∀ k : DigitPos, s.regs.selw ≠ 0b000#3 ++ BitVec.ofNat 2 k.val) → s.regs.selw ≠ 0b00100#5 →
      s.regs.selw ≠ 0b01000#5 → s.regs.selw ≠ 0b10000#5 → step s = .fault (.illegalSelector s.regs.selw))

/-- A step runs the decoded instruction: with RST released, step is exec of what SELW decodes to, on the state whose RST
slot is spent (log entry 4); a selector that does not decode faults. -/
def Obligations.StepRunsDecodedInstruction : Prop :=
  ∀ s : State, s.rstAsserted = false →
    (∀ i, decode (.selw s.regs.selw) = .ok i → step s = exec i s.nextRst) ∧
    (∀ e, decode (.selw s.regs.selw) = .error e → step s = .fault (.illegalSelector s.regs.selw))

/-- A table word that decodes is what the very next step runs once it is placed; placing it writes AWAIT and PHASE,
releases RST at the coming step slot, and changes nothing else (the model's choice, log entries 1 and 14). -/
def Obligations.PlacedWordIsRunNext : Prop :=
  ∀ (s : State) (nbits w : Nat) (i : Instr), decodeTableWord nbits w = some i →
    step (s.withFetchWord nbits w) = exec i (s.withFetchWord nbits w).nextRst ∧
    (s.withFetchWord nbits w).regs =
      { s.regs with await := (s.withFetchWord nbits w).regs.await, phase := (s.withFetchWord nbits w).regs.phase } ∧
    (s.withFetchWord nbits w).answers = s.answers ∧ (s.withFetchWord nbits w).reads = s.reads ∧
    (s.withFetchWord nbits w).events = s.events ∧ (s.withFetchWord nbits w).returned = s.returned ∧
    (s.withFetchWord nbits w).slots = s.slots ∧ (s.withFetchWord nbits w).rst = false :: s.rst.tail ∧
    (s.withFetchWord nbits w).rstAsserted = false ∧ ∀ n, (s.withFetchWord nbits w).rstAt (n + 1) = s.rstAt (n + 1)

/-- R54: the rows of the SELW table, each word in exactly one of them or reserved. -/
def Obligations.SelwDecodeTable : Prop :=
  ∀ w : SelWord,
    (w &&& 0b11100#5 = 0b00000#5 → decode (.selw w) = .ok (.ctlRender (w.extractLsb' 0 2).toFin)) ∧
    (w &&& 0b11111#5 = 0b00100#5 → decode (.selw w) = .ok .ctlUpdate) ∧
    (w &&& 0b11111#5 = 0b01000#5 → decode (.selw w) = .ok .ctlAwaitStart) ∧
    (w &&& 0b11111#5 = 0b10000#5 → decode (.selw w) = .ok .ctlAwaitReset) ∧
    (w &&& 0b11100#5 ≠ 0b00000#5 → w ≠ 0b00100#5 → w ≠ 0b01000#5 → w ≠ 0b10000#5 →
      decode (.selw w) = .error (.illegalSelector w))

/-- R55 and R56: DEBCTL 00 is HOLD, 01 SAMPLE of RAW, 10 CLEAR, 11 reserved; every DRSEL is DR.RENDER of digit K of V. -/
def Obligations.ComponentDecodeTables : Prop :=
  (∀ b raw, decode (.debctl b 0b00#2 raw) = .ok (.debHold b) ∧
    decode (.debctl b 0b01#2 raw) = .ok (.debSample b raw) ∧
    decode (.debctl b 0b10#2 raw) = .ok (.debClear b) ∧
    decode (.debctl b 0b11#2 raw) = .error (.debCtlReserved b)) ∧
  (∀ k v, decode (.drsel k v) = .ok (.drRender v.toNat k.toFin))

/-- R59: a Debouncer given DEBCTL = 11 refuses by name, and the controller never drives it: no step is refused. -/
def Obligations.ReservedDebctlRefused : Prop :=
  (∀ b raw (s : State), driveWord (.debctl b 0b11#2 raw) s = .refused (.debCtlReserved b)) ∧
  (∀ (s : State) r, step s ≠ .refused r)

/-- Decoding the control word of a well-formed operation gives it back, with every operand at every value. -/
def Obligations.DecodeEncodeRoundTrip : Prop :=
  ∀ i : Instr, i.wellFormed = true → decode (encode i) = .ok i

/-- Encoding what a control word decodes to gives the word back, RAW driven 0 where it is ignored (log entry 11), and
what is decoded is well formed. -/
def Obligations.EncodeDecodeRoundTrip : Prop :=
  ∀ (w : ControlWord) (i : Instr), decode w = .ok i → encode i = canonicalWord w ∧ i.wellFormed = true

/-- A few control words written out from R54, R55 and R53. -/
def Obligations.SpecWordsDecode : Prop :=
  decode (.selw 0b00011#5) = .ok (.ctlRender 3) ∧ decode (.selw 0b00100#5) = .ok .ctlUpdate ∧
  decode (.selw 0b01000#5) = .ok .ctlAwaitStart ∧ decode (.selw 0b10000#5) = .ok .ctlAwaitReset ∧
  decode (.selw 0b01001#5) = .error (.illegalSelector 0b01001#5) ∧
  decode (.debctl .reset 0b01#2 true) = .ok (.debSample .reset true) ∧
  decode (.drsel 0b10#2 1234#14) = .ok (.drRender 1234 2)

/-! ### The Debouncer -/

/-- R68: DEB.HOLD changes no state, and it is what every Debouncer does in every step other than CTL.UPDATE. -/
def Obligations.DebHoldKeepsState : Prop :=
  (∀ b raw, decode (.debctl b 0b00#2 raw) = .ok (.debHold b)) ∧
  (∀ b (s : State), ∃ t, exec (.debHold b) s = .next t ∧ t.regs = s.regs ∧ ∀ c, t.conf c = s.conf c) ∧
  (∀ s t : State, s.rstAsserted = false → s.regs.selw ≠ 0b00100#5 → step s = .next t →
    ∀ b, t.regs.deb b = s.regs.deb b)

/-- R69: DEB.SAMPLE writes the slot at the index, advances the index modulo N, and leaves every other slot, every other
Debouncer and every other register; CONF[b] is that of the new window. The second clause is the rule for a window of any
size N, N = 1 among them. -/
def Obligations.DebSampleWritesSlot : Prop :=
  (∀ b raw, decode (.debctl b 0b01#2 raw) = .ok (.debSample b raw)) ∧
  (∀ (N : Nat) (d : Debouncer N) raw, (d.sample raw).idx.val = (d.idx.val + 1) % N ∧
    ∀ i (h : i < N), (d.sample raw).win[i] = if i = d.idx.val then raw else d.win[i]) ∧
  ∀ b raw (s : State), ∃ t, exec (.debSample b raw) s = .next t ∧
    (∀ i (h : i < Config.nSamples), (t.regs.deb b).win[i] =
      if i = (s.regs.deb b).idx.val then raw else (s.regs.deb b).win[i]) ∧
    (t.regs.deb b).idx.val = ((s.regs.deb b).idx.val + 1) % Config.nSamples ∧
    s.regs.SameButDeb t.regs b ∧
    (t.conf b = true ↔ ∀ i (h : i < Config.nSamples), (t.regs.deb b).win[i] = true)

/-- R70: DEB.CLEAR writes false to every slot, keeps the index, and leaves every other Debouncer and register; CONF[b]
becomes false. The second clause is the rule for a window of any size N. -/
def Obligations.DebClearZeroesWindow : Prop :=
  (∀ b raw, decode (.debctl b 0b10#2 raw) = .ok (.debClear b)) ∧
  (∀ (N : Nat) (d : Debouncer N), d.clear.idx = d.idx ∧ d.clear.conf = false ∧
    ∀ i (h : i < N), d.clear.win[i] = false) ∧
  ∀ b (s : State), ∃ t, exec (.debClear b) s = .next t ∧
    (∀ i (h : i < Config.nSamples), (t.regs.deb b).win[i] = false) ∧
    (t.regs.deb b).idx = (s.regs.deb b).idx ∧ s.regs.SameButDeb t.regs b ∧ t.conf b = false

/-- R71: COUNT is the number of set slots, at most N and within ceil(log2(N+1)) bits; CONF is COUNT = N, which is that
every slot is true; it does not read the index. For a window of any size. -/
def Obligations.ConsensusVoter : Prop :=
  ∀ (N : Nat) (d : Debouncer N),
    d.count = ((List.finRange N).map fun i => d.win[i.val].toNat).sum ∧
    d.count ≤ N ∧ d.count < 2 ^ Nat.clog 2 (N + 1) ∧
    (d.conf = true ↔ d.count = N) ∧ (d.conf = true ↔ ∀ i (h : i < N), d.win[i] = true) ∧
    ∀ e : Debouncer N, e.win = d.win → e.conf = d.conf

/-- The window law (40_debouncer.md section 3, an inference the spec marks as its own): after any operations from
hardware reset, the slot `(IDX - j) mod N` holds the j-th most recent value of the sample history, and CONF says that
the last N values are all true. For a window of any size. -/
def Obligations.WindowHoldsLastSamples : Prop :=
  ∀ (N : Nat) (h : 0 < N) (ops : List DebOp),
    let d := ops.foldl Debouncer.apply (Debouncer.reset N h)
    let hist := sampleHistory N ops
    N ≤ hist.length ∧
    (∀ j (_ : 1 ≤ j ∧ j ≤ N), some (d.win[(d.idx.val + N - j) % N]'(Nat.mod_lt _ h)) = hist[j - 1]?) ∧
    (d.conf = true ↔ ∀ x ∈ hist.take N, x = true)

/-- The confirmation property (40_debouncer.md section 3, an inference the spec marks as its own): after a clear or
after a false sample, CONF is true exactly when at least N samples followed and the last N of them are true. For a
window of any size; `raws` lists the samples oldest first. -/
def Obligations.ConfirmedExactlyAfterNTrueSamples : Prop :=
  ∀ (N : Nat) (_ : 0 < N) (d : Debouncer N) (raws : List Bool),
    ((d.clear.samples raws).conf = true ↔
      N ≤ raws.length ∧ ∀ x ∈ raws.drop (raws.length - N), x = true) ∧
    (((d.sample false).samples raws).conf = true ↔
      N ≤ raws.length ∧ ∀ x ∈ raws.drop (raws.length - N), x = true)

/-- A full window re-confirms and stays confirmed while every later sample is true (40_debouncer.md section 3 and
70_reset_and_hazards.md section 3, inferences the spec marks as its own). For a window of any size. -/
def Obligations.ConfirmedWindowStaysConfirmed : Prop :=
  ∀ (N : Nat) (d : Debouncer N) (raws : List Bool),
    d.conf = true → (∀ x ∈ raws, x = true) → (d.samples raws).conf = true

/-! ### The DigitRenderer -/

/-- R79: the segment encoder gives exactly the patterns of the segment encoding table, bit 7 of every one 0. -/
def Obligations.SegmentTable : Prop :=
  ∀ (d : Nat) (p : Byte),
    (segEncode d = .ok p ↔ (d, p) ∈ [(0, 0x3F#8), (1, 0x06#8), (2, 0x5B#8), (3, 0x4F#8), (4, 0x66#8), (5, 0x6D#8),
      (6, 0x7D#8), (7, 0x07#8), (8, 0x7F#8), (9, 0x6F#8)]) ∧
    (segEncode d = .ok p → p.getLsbD 7 = false)

/-- R81: the select masks, whatever the value: MASK[k] = 1 << (3 - k), exactly one bit set, bits 7..4 zero; the least
significant digit selects bit 3. -/
def Obligations.DigitMultiplexer : Prop :=
  ∀ v : Nat, (renderSequence v).map Prod.snd = [0x08#8, 0x04#8, 0x02#8, 0x01#8] ∧
    ∀ k : DigitPos, (renderPair v k).2 = 1#8 <<< (3 - k.val) ∧ (renderPair v k).2.extractLsb' 4 4 = 0#4 ∧
      ∃ j : Fin 8, ∀ i : Fin 8, (renderPair v k).2.getLsbD i.val = decide (i = j)

/-- R77: digit k of an unsigned value. -/
def Obligations.BcdDecoder : Prop :=
  ∀ v : Nat, (∀ k : DigitPos, (digit v k).val = v / 10 ^ k.val % 10 ∧ (digit v k).val ≤ 9) ∧
    (digit v 0).val = v % 10 ∧ (digit v 1).val = v / 10 % 10 ∧ (digit v 2).val = v / 100 % 10 ∧
    (digit v 3).val = v / 1000 % 10

/-- The four digits are the decimal digits of v mod 10000, and a digit above the value is 0 (41_digit_renderer.md section
2, an inference the spec marks as its own). -/
def Obligations.DigitsReconstructValue : Prop :=
  ∀ v : Nat, (digit v 0).val + 10 * (digit v 1).val + 100 * (digit v 2).val + 1000 * (digit v 3).val = v % 10000 ∧
    ∀ k : DigitPos, v < 10 ^ k.val → (digit v k).val = 0

/-- The display tells every count from every other: two values below 10000 with the same render sequence are equal
(from R77, R79, R81 and R83). -/
def Obligations.DisplayDeterminesValue : Prop :=
  ∀ v w : Nat, v < Config.tickMod → w < Config.tickMod → renderSequence v = renderSequence w → v = w

/-- The segment encoder on its own refuses a digit of 10 or more, and on a digit gives the pattern DR.RENDER gives
(41_digit_renderer.md section 2, an inference the spec marks as its own). -/
def Obligations.SegmentEncoderRefusesNonDigits : Prop :=
  (∀ d : Nat, 10 ≤ d → segEncode d = .error (.segDigitOutOfRange d)) ∧
  (∀ v k, segEncode (v / 10 ^ k.val % 10) = .ok (renderPair v k).1)

/-- DR.RENDER v, k returns (SEGTAB of the digit, MASK[k]) for every v and writes no register and no event. That the pair
it returns is read from `returned` is the model's choice (log entry 6). -/
def Obligations.DrRenderReturnsPair : Prop :=
  (∀ (k : BitVec 2) v, decode (.drsel k v) = .ok (.drRender v.toNat k.toFin)) ∧
  ∀ v k (s : State), ∃ t p, exec (.drRender v k) s = .next t ∧ segEncode (v / 10 ^ k.val % 10) = .ok p ∧
    t.returned = some (p, 1#8 <<< (3 - k.val)) ∧ t.regs = s.regs ∧ t.events = s.events

/-- R83: the render sequence is the four pairs DR.RENDER v, k for k = 0, 1, 2, 3 in that order; a refresh cycle starts it
at k = 0 and drives its pairs to the ports one a step. -/
def Obligations.RenderSequenceDrivesPorts : Prop :=
  (∀ v, renderSequence v = [renderPair v 0, renderPair v 1, renderPair v 2, renderPair v 3]) ∧
  renderSequence 1234 = [(0x66#8, 0x08#8), (0x4F#8, 0x04#8), (0x5B#8, 0x02#8), (0x06#8, 0x01#8)] ∧
  ∀ s : State, s.regs.selw = 0b00000#5 → s.RstReleasedFor 4 → ∃ t, stepN 4 s = .next t ∧
    t.events = ((renderSequence s.regs.ticks.val).map fun p => Event.portWrite p.1 p.2).reverse ++ s.events ∧
    t.regs.selw = 0b00100#5

/-! ### The controller's operations -/

/-- R88: CTL.RENDER k drives digit k of TICKS and its mask to the ports, records the write, moves PHASE to k + 1, and
changes nothing else. -/
def Obligations.CtlRenderEffect : Prop :=
  (∀ k : DigitPos, decode (.selw (0b000#3 ++ BitVec.ofNat 2 k.val)) = .ok (.ctlRender k)) ∧
  ∀ k (s : State), ∃ t, exec (.ctlRender k) s = .next t ∧
    segEncode (s.regs.ticks.val / 10 ^ k.val % 10) = .ok t.regs.segOut ∧
    t.regs.selOut = 1#8 <<< (3 - k.val) ∧ t.regs.phase.toNat = k.val + 1 ∧
    t.events = .portWrite t.regs.segOut t.regs.selOut :: s.events ∧
    t.regs.ticks = s.regs.ticks ∧ t.regs.run = s.regs.run ∧ t.regs.await = s.regs.await ∧
    ∀ b, t.regs.deb b = s.regs.deb b

/-- R38: every port write, which only CTL.RENDER makes, has segment bit 7 and select bits 7..4 zero. -/
def Obligations.UnusedOutputBitsZero : Prop :=
  (∀ k (s : State), ∃ t, exec (.ctlRender k) s = .next t ∧
    t.regs.segOut.getLsbD 7 = false ∧ t.regs.selOut.extractLsb' 4 4 = 0#4) ∧
  ∀ (i : Instr) (s t : State), exec i s = .next t → (∀ k, i ≠ .ctlRender k) → t.regs.ports = s.regs.ports

/-- R89, with the priority of R94 and the transitions of R96 and R97: CTL.UPDATE ticks if Running, samples the three
reads, then takes at most one transition, Reset first, and sets PHASE to 0; the ports stay. `s.sampled b` is DEB[b]
after this step's sample of it. -/
def Obligations.CtlUpdateEffect : Prop :=
  decode (.selw 0b00100#5) = .ok .ctlUpdate ∧
  ∀ s : State, ∃ t, exec .ctlUpdate s = .next t ∧
    t.regs.phase = 0#3 ∧ t.regs.segOut = s.regs.segOut ∧ t.regs.selOut = s.regs.selOut ∧
    t.regs.debReset = s.sampled .reset ∧
    ((s.sampled .reset).conf = true →
      t.regs.run = .stopped ∧ t.regs.ticks.val = 0 ∧ t.regs.await = 0b10#2 ∧
      t.regs.debStart = s.sampled .start ∧ t.regs.debStop = (s.sampled .stop).clear) ∧
    ((s.sampled .reset).conf = false → s.regs.run = .stopped → (s.sampled .start).conf = true →
      t.regs.run = .running ∧ t.regs.ticks.val = s.ticked ∧ t.regs.await = 0b01#2 ∧
      t.regs.debStart = (s.sampled .start).clear ∧ t.regs.debStop = (s.sampled .stop).clear) ∧
    ((s.sampled .reset).conf = false → s.regs.run = .running → (s.sampled .stop).conf = true →
      t.regs.run = .stopped ∧ t.regs.ticks.val = s.ticked ∧ t.regs.await = s.regs.await ∧
      t.regs.debStart = s.sampled .start ∧ t.regs.debStop = (s.sampled .stop).clear) ∧
    ((s.sampled .reset).conf = false → (s.regs.run = .stopped → (s.sampled .start).conf = false) →
      (s.regs.run = .running → (s.sampled .stop).conf = false) →
      t.regs.run = s.regs.run ∧ t.regs.ticks.val = s.ticked ∧ t.regs.await = s.regs.await ∧
      t.regs.debStart = s.sampled .start ∧ t.regs.debStop = s.sampled .stop)

/-- R92: TICKS is incremented modulo 10000 in each CTL.UPDATE that starts Running, and nowhere else; a Reset transition of
the same step overwrites it with 0. -/
def Obligations.TicksCountOnlyInUpdate : Prop :=
  ∀ s t : State, s.rstAsserted = false → step s = .next t →
    (s.regs.selw ≠ 0b00100#5 → t.regs.ticks = s.regs.ticks) ∧
    (s.regs.selw = 0b00100#5 → (s.sampled .reset).conf = false → t.regs.ticks.val =
      if s.regs.run = .running then (if s.regs.ticks.val = 9999 then 0 else s.regs.ticks.val + 1) else s.regs.ticks.val) ∧
    (s.regs.selw = 0b00100#5 → (s.sampled .reset).conf = true → t.regs.ticks.val = 0)

/-- R98: RUN leaves Stopped only in a Start transition and leaves Running only in a Stop or Reset transition; a confirmed
Start while Running and a confirmed Stop while Stopped change nothing, and their windows are not cleared. -/
def Obligations.OnlyNamedTransitions : Prop :=
  ∀ s t : State, s.rstAsserted = false → step s = .next t →
    (s.regs.run = .stopped → t.regs.run = .running →
      s.regs.selw = 0b00100#5 ∧ (s.sampled .start).conf = true ∧ (s.sampled .reset).conf = false) ∧
    (s.regs.run = .running → t.regs.run = .stopped →
      s.regs.selw = 0b00100#5 ∧ ((s.sampled .stop).conf = true ∨ (s.sampled .reset).conf = true)) ∧
    (s.regs.selw = 0b00100#5 → s.regs.run = .running → (s.sampled .reset).conf = false →
      t.regs.debStart = s.sampled .start ∧ t.regs.await = s.regs.await ∧
      ((s.sampled .stop).conf = false → t.regs.run = .running)) ∧
    (s.regs.selw = 0b00100#5 → s.regs.run = .stopped → (s.sampled .reset).conf = false →
      (s.sampled .start).conf = false →
      t.regs.debStop = s.sampled .stop ∧ t.regs.await = s.regs.await ∧ t.regs.run = .stopped ∧ t.regs.ticks = s.regs.ticks)

/-- R93: each CTL.UPDATE performs exactly one DEB.SAMPLE on each Debouncer, with a read of that button, whatever RUN is:
every index advances by one modulo N, and each window is the sampled one unless the step's transition clears it; no
other operation of the controller samples. (The rule's order of sampling is that of R39.) -/
def Obligations.UpdateSamplesEachButtonOnce : Prop :=
  (∀ s : State, ∃ t, exec .ctlUpdate s = .next t ∧ t.reads = s.reads + 3 ∧
    ∀ b, (t.regs.deb b).idx.val = ((s.regs.deb b).idx.val + 1) % Config.nSamples ∧
      (t.regs.deb b = s.sampled b ∨ t.regs.deb b = (s.sampled b).clear)) ∧
  (∀ k (s : State), ∃ t, exec (.ctlRender k) s = .next t ∧ ∀ b, t.regs.deb b = s.regs.deb b) ∧
  (∀ s : State, ∃ t, exec .ctlAwaitStart s = .next t ∧ ∀ b, t.regs.deb b = s.regs.deb b) ∧
  (∀ s : State, ∃ t, exec .ctlAwaitReset s = .next t ∧ ∀ b, t.regs.deb b = s.regs.deb b)

/-- R90: CTL.AWAIT_START reads Start once; released sets AWAIT to NONE, pressed changes nothing; no other register is
written. In the states the invariant allows, RUN is Running throughout the wait. -/
def Obligations.CtlAwaitStartEffect : Prop :=
  decode (.selw 0b01000#5) = .ok .ctlAwaitStart ∧
  ∀ s : State, ∃ t, exec .ctlAwaitStart s = .next t ∧ t.events = .read .start (s.peek 0) :: s.events ∧
    (s.peek 0 = false → t.regs = { s.regs with await := 0b00#2 } ∧ (s.regs.phase = 0#3 → t.regs.selw = 0b00000#5)) ∧
    (s.peek 0 = true → t.regs = s.regs ∧ (s.regs.selw = 0b01000#5 → t.regs.selw = 0b01000#5)) ∧
    (s.regs.Inv → s.regs.await = 0b01#2 → t.regs.run = .running)

/-- R91: CTL.AWAIT_RESET reads Reset once; released sets AWAIT to NONE, pressed changes nothing; no other register is
written. In the states the invariant allows, RUN is Stopped and TICKS 0 throughout, and WIN[Reset] is still full. -/
def Obligations.CtlAwaitResetEffect : Prop :=
  decode (.selw 0b10000#5) = .ok .ctlAwaitReset ∧
  ∀ s : State, ∃ t, exec .ctlAwaitReset s = .next t ∧ t.events = .read .reset (s.peek 0) :: s.events ∧
    (s.peek 0 = false → t.regs = { s.regs with await := 0b00#2 } ∧ (s.regs.phase = 0#3 → t.regs.selw = 0b00000#5)) ∧
    (s.peek 0 = true → t.regs = s.regs ∧ (s.regs.selw = 0b10000#5 → t.regs.selw = 0b10000#5)) ∧
    (s.regs.Inv → s.regs.await = 0b10#2 →
      t.regs.run = .stopped ∧ t.regs.ticks.val = 0 ∧ t.regs.debReset.conf = true)

/-! ### The sequencer, the observation, the inputs -/

/-- R20: SELW is AWAIT and PHASE side by side, it selects the operation the step performs, and that operation writes it. -/
def Obligations.SelectorSuccessors : Prop :=
  ∀ s t : State, s.rstAsserted = false → step s = .next t →
    s.regs.selw = s.regs.await ++ s.regs.phase ∧
    (∃ i, decode (.selw s.regs.selw) = .ok i ∧ exec i s.nextRst = .next t) ∧
    (∀ k : DigitPos, s.regs.selw = 0b000#3 ++ BitVec.ofNat 2 k.val →
      t.regs.await = 0b00#2 ∧ t.regs.phase.toNat = k.val + 1) ∧
    (s.regs.selw = 0b00100#5 → t.regs.phase = 0#3 ∧ t.regs.await =
      if (s.sampled .reset).conf = true then 0b10#2
      else if s.regs.run = .stopped ∧ (s.sampled .start).conf = true then 0b01#2 else 0b00#2) ∧
    (s.regs.selw = 0b01000#5 → t.regs.phase = 0#3 ∧ t.regs.await = if s.peek 0 = false then 0b00#2 else 0b01#2) ∧
    (s.regs.selw = 0b10000#5 → t.regs.phase = 0#3 ∧ t.regs.await = if s.peek 0 = false then 0b00#2 else 0b10#2)

/-- The observation of a step: a CTL.RENDER step writes both ports and records it, even with the value already held
(R36); every read is a fresh one, CTL.UPDATE's in the order Start, Stop, Reset (R39, R89); no other step writes a port.
That a read is recorded too, and the form of the list, is the model's choice (log entry 5). -/
def Obligations.EventsOfEachStep : Prop :=
  ∀ s t : State, s.rstAsserted = false → step s = .next t →
    (∀ k : DigitPos, s.regs.selw = 0b000#3 ++ BitVec.ofNat 2 k.val →
      t.events = .portWrite t.regs.segOut t.regs.selOut :: s.events ∧ t.regs.ports = renderPair s.regs.ticks.val k) ∧
    (s.regs.selw = 0b00100#5 → t.regs.ports = s.regs.ports ∧ t.events =
      .read .reset (s.peek 2) :: .read .stop (s.peek 1) :: .read .start (s.peek 0) :: s.events) ∧
    (s.regs.selw = 0b01000#5 → t.regs.ports = s.regs.ports ∧ t.events = .read .start (s.peek 0) :: s.events) ∧
    (s.regs.selw = 0b10000#5 → t.regs.ports = s.regs.ports ∧ t.events = .read .reset (s.peek 0) :: s.events)

/-- The frame of the model's own fields (log entries 3 to 6), for all eight operations: each completes, leaves RST's
levels, spends exactly the reads it makes, and only DR.RENDER writes `returned`; the Debouncer's operations and DR.RENDER
record no event. (The events of the controller's operations: CtlRenderEffect, EventsOfEachStep.) -/
def Obligations.EnvironmentFieldsFrame : Prop :=
  ∀ (i : Instr) (s : State), ∃ t, exec i s = .next t ∧ t.rst = s.rst ∧ t.slots = s.slots ∧ t.reads = s.reads + readCount i ∧
    t.answers = s.answers.drop (readCount i) ∧ (∀ n, t.peek n = s.peek (n + readCount i)) ∧
    ((∀ v k, i ≠ .drRender v k) → t.returned = s.returned) ∧
    ((∃ b, i = .debHold b) ∨ (∃ b raw, i = .debSample b raw) ∨ (∃ b, i = .debClear b) ∨ (∃ v k, i = .drRender v k) →
      t.events = s.events)

/-- R100: while AWAIT is not NONE every step is one poll of the awaited button. As long as the reads return true no
register changes, for any number of steps; the first read that returns false ends the wait and changes AWAIT only; there
is no timeout, so for every number of polls there are answers under which the wait goes on. -/
def Obligations.ReleaseWaitSuspends : Prop :=
  ∀ (s : State) (b : ButtonId),
    (b = .start ∧ s.regs.selw = 0b01000#5 ∨ b = .reset ∧ s.regs.selw = 0b10000#5) →
    (∀ n, s.RstReleasedFor (n + 1) → (∀ j, j < n → s.peek j = true) →
      (∃ t, stepN n s = .next t ∧ t.regs = s.regs ∧ t.events = List.replicate n (.read b true) ++ s.events) ∧
      (s.peek n = false → ∃ t, stepN (n + 1) s = .next t ∧ t.regs = { s.regs with await := 0b00#2 } ∧
        t.events = .read b false :: (List.replicate n (.read b true) ++ s.events))) ∧
    ∀ n, ∃ answers t, stepN n { s.releaseRst n with answers := answers } = .next t ∧ t.regs = s.regs

/-- After a start, TICKS does not advance while Start is held, and its first increment is at the CTL.UPDATE of the first
refresh cycle after the release-wait (R95, R100; the freeze is an inference the spec marks as its own). -/
def Obligations.StartWaitDelaysCounting : Prop :=
  ∀ (s : State) (n : Nat), s.regs.selw = 0b01000#5 → s.regs.run = .running → s.RstReleasedFor (n + 6) →
    (∀ j, j < n → s.peek j = true) → s.peek n = false →
    (∀ m, m ≤ n + 5 → ∃ t, stepN m s = .next t ∧ t.regs.ticks = s.regs.ticks ∧ t.regs.run = .running) ∧
    (((s.regs.debReset).sample (s.peek (n + 3))).conf = false →
      ∃ t, stepN (n + 6) s = .next t ∧ t.regs.ticks.val = (s.regs.ticks.val + 1) % Config.tickMod)

/-- One refresh cycle (R86, and the sequence and counting laws of 42_controller.md section 6, inferences the spec marks
as its own): from SELW = 00000 the steps are CTL.RENDER 0 to 3 and CTL.UPDATE; the four pairs of one TICKS value are
written in order; then the buttons are read; TICKS counts by one if Running, and is 0 after a Reset transition. -/
def Obligations.RefreshCycle : Prop :=
  ∀ s : State, s.regs.selw = 0b00000#5 → s.RstReleasedFor 5 →
    (∀ j, j ≤ 4 → ∃ u, stepN j s = .next u ∧ u.regs.selw = BitVec.ofNat 5 j ∧ u.regs.ticks = s.regs.ticks) ∧
    ∃ t, stepN 5 s = .next t ∧ t.regs.phase = 0#3 ∧ t.regs.ports = renderPair s.regs.ticks.val 3 ∧
      t.events = .read .reset (s.peek 2) :: .read .stop (s.peek 1) :: .read .start (s.peek 0) ::
        (((renderSequence s.regs.ticks.val).map fun p => Event.portWrite p.1 p.2).reverse ++ s.events) ∧
      t.regs.ticks.val =
        if (s.sampled .reset).conf = true then 0
        else if s.regs.run = .running then (s.regs.ticks.val + 1) % Config.tickMod else s.regs.ticks.val

/-- An idle refresh cycle while Stopped with clear windows changes only the indices and the ports (70_reset_and_hazards.md
section 1, an inference the spec marks as its own; the ports are written, log entry 9). -/
def Obligations.IdleCycleMovesOnlyIndices : Prop :=
  ∀ s : State, s.regs.selw = 0b00000#5 → s.regs.run = .stopped → s.RstReleasedFor 5 →
    (∀ b, (s.regs.deb b).win = Vector.replicate Config.nSamples false) →
    s.peek 0 = false → s.peek 1 = false → s.peek 2 = false →
    ∃ t, stepN 5 s = .next t ∧ t.regs.selw = 0b00000#5 ∧ t.regs.run = .stopped ∧ t.regs.ticks = s.regs.ticks ∧
      t.regs.ports = renderPair s.regs.ticks.val 3 ∧
      ∀ b, (t.regs.deb b).win = Vector.replicate Config.nSamples false ∧
        (t.regs.deb b).idx.val = ((s.regs.deb b).idx.val + 1) % Config.nSamples

/-- The debounce latency on the machine (40_debouncer.md section 3, an inference the spec marks as its own): Stopped with
a clear Start window, Start read pressed and Reset read released in N refresh cycles in a row: Stopped after each of
the first N - 1 cycles, Running and waiting for the release of Start after the N-th. -/
def Obligations.PressForNCyclesStarts : Prop :=
  ∀ s : State, s.regs.selw = 0b00000#5 → s.regs.run = .stopped → s.RstReleasedFor (5 * Config.nSamples) →
    s.regs.debStart.win = Vector.replicate Config.nSamples false →
    (∀ n, n < Config.nSamples → s.peek (3 * n) = true ∧ s.peek (3 * n + 2) = false) →
    (∀ n, n < Config.nSamples → ∃ t, stepN (5 * n) s = .next t ∧ t.regs.run = .stopped ∧ t.regs.selw = 0b00000#5 ∧
      t.regs.ticks = s.regs.ticks) ∧
    ∃ t, stepN (5 * Config.nSamples) s = .next t ∧ t.regs.run = .running ∧ t.regs.selw = 0b01000#5 ∧
      t.regs.ticks = s.regs.ticks

/-! ### The invariant and every run -/

/-- The invariant holds at reset. -/
def Obligations.InvariantAtReset : Prop := State.reset.regs.Inv

/-- Every step that answers a next state keeps the invariant (R23, R24, R25 and the sections it is read from). -/
def Obligations.InvariantKeptByEveryStep : Prop :=
  ∀ s t : State, s.regs.Inv → step s = .next t → t.regs.Inv

/-- No run of a state with a legal selector ends (R118): a step slot always answers a next state, whose selector is legal
again; so no fault and no refusal is reachable. -/
def Obligations.LegalSelectorStepsOn : Prop :=
  ∀ s : State, s.regs.SelectorLegal → ∃ t, step s = .next t ∧ t.regs.SelectorLegal

/-- Every finite run from a state with the invariant goes on and keeps it, whatever the environment answers and whenever
RST is asserted (R118). -/
def Obligations.EveryFiniteRunGoesOn : Prop :=
  ∀ (n : Nat) (s : State), s.regs.Inv → ∃ t, stepN n s = .next t ∧ t.regs.Inv

/-- A step faults exactly where RST is released and the selector is illegal, and the fault names the selector (R54's
table; log entry 8 on the number of illegal values). -/
def Obligations.IllegalSelectorFaults : Prop :=
  ∀ (s : State) (f : Fault), step s = .fault f ↔
    (s.rstAsserted = false ∧ ¬ s.regs.SelectorLegal ∧ f = .illegalSelector s.regs.selw)

/-- Hidden state (10_state.md section 4, an inference the spec marks as its own): two states alike but for the rotation of
their windows have runs alike, with the same outputs and the same observation, for every input sequence. -/
def Obligations.IndexIsHidden : Prop :=
  ∀ (n : Nat) (s t : State), s.SameUpToIndex t →
    (∀ s', stepN n s = .next s' → ∃ t', stepN n t = .next t' ∧ s'.SameUpToIndex t' ∧ s'.regs.ports = t'.regs.ports) ∧
    (∀ f, stepN n s = .fault f → stepN n t = .fault f)

/-! ### Hazards (70_reset_and_hazards.md section 3, inferences the spec marks as its own) -/

/-- Reset re-trigger: with WIN[Reset] full in the Reset release-wait, one released poll and then one refresh cycle that
reads Reset pressed take the Reset transition again; one that reads it released does not. -/
def Obligations.ResetRetriggersAfterOneSample : Prop :=
  ∀ s : State, s.regs.selw = 0b10000#5 → s.regs.debReset.conf = true → s.RstReleasedFor 6 → s.peek 0 = false →
    ∃ t, stepN 6 s = .next t ∧
      (s.peek 3 = true → t.regs.selw = 0b10000#5 ∧ t.regs.run = .stopped ∧ t.regs.ticks.val = 0 ∧
        t.regs.debReset.conf = true ∧ t.regs.debStop.win = Vector.replicate Config.nSamples false) ∧
      (s.peek 3 = false → t.regs.selw ≠ 0b10000#5 ∧ t.regs.debReset.conf = false)

/-- Start and Stop held together: a Stop transition with Start confirmed leaves WIN[Start] full, so the next refresh cycle
that reads Start pressed starts again. -/
def Obligations.StartHeldRestartsAfterStop : Prop :=
  ∀ s : State, s.regs.selw = 0b00100#5 → s.regs.run = .running → s.RstReleasedFor 6 →
    (s.sampled .reset).conf = false → (s.sampled .stop).conf = true → (s.sampled .start).conf = true →
    ((s.sampled .reset).sample (s.peek 5)).conf = false → s.peek 3 = true →
    (∃ t, step s = .next t ∧ t.regs.run = .stopped ∧ t.regs.debStart.conf = true ∧ t.regs.selw = 0b00000#5) ∧
    ∃ u, stepN 6 s = .next u ∧ u.regs.run = .running ∧ u.regs.selw = 0b01000#5

/-- Reset with Start: both confirmed while Stopped take only the Reset transition and WIN[Start] stays full, so after the
Reset release-wait one refresh cycle that reads Start pressed and Reset released starts. -/
def Obligations.ResetBeatsStartThenStartFires : Prop :=
  ∀ s : State, s.regs.selw = 0b00100#5 → s.regs.run = .stopped → s.RstReleasedFor 7 →
    (s.sampled .reset).conf = true → (s.sampled .start).conf = true →
    s.peek 3 = false → s.peek 4 = true → s.peek 6 = false →
    (∃ t, step s = .next t ∧ t.regs.selw = 0b10000#5 ∧ t.regs.run = .stopped ∧ t.regs.debStart.conf = true) ∧
    ∃ u, stepN 7 s = .next u ∧ u.regs.run = .running ∧ u.regs.selw = 0b01000#5 ∧ u.regs.ticks.val = 0

/-! ### Stimulus programs -/

/-- A line that does not match the operation SELW selects when it begins is refused with its number, a line that matches
is never refused, and a mismatching line ends a stimulus program (30_encoding.md section 6). After a line that runs, the
next one is numbered one more, and a program's expanded lines are numbered from 1 (log entry 12). -/
def Obligations.StimulusMismatchRefused : Prop :=
  (∀ (n : Nat) (l : Line) (s : State), runLine n l s = .refused (.stimulusMismatch n) ↔
    match l with
    | .cycle _ _ _ => s.regs.selw ≠ 0b00000#5
    | .poll _ => s.regs.await = 0b00#2) ∧
  (∀ (n : Nat) (l : Line) (s : State) r, runLine n l s = .refused r → r = .stimulusMismatch n) ∧
  (∀ (n : Nat) (l : Line) (ls : List Line) (s : State), lineMatches l s.regs = false →
    runLines n (l :: ls) s = .refused (.stimulusMismatch n)) ∧
  (∀ (n : Nat) (l : Line) (ls : List Line) (s t : State), runLine n l s = .next t →
    runLines n (l :: ls) s = runLines (n + 1) ls t) ∧
  (∀ (p : List PseudoLine) (s : State), runStimulus p s = runLines 1 (p.flatMap PseudoLine.expand) s)

/-! ### RST at any slot -/

/-- RST may be asserted at any time (R117, R121): asserted at the n-th coming slot of a run from a legal selector, whatever
the levels before it, it leaves every register at its reset value; held for any number of slots, from any state, the
registers stay there and no operation happens. The step slots are the model's choice (log entry 4). -/
def Obligations.RstAssertedAtAnySlot : Prop :=
  (∀ (n : Nat) (s : State), s.regs.SelectorLegal → s.rstAt n = true →
    ∃ t, stepN (n + 1) s = .next t ∧ t.regs = State.reset.regs) ∧
  (∀ (n : Nat) (s : State), (∀ j, j ≤ n → s.rstAt j = true) →
    ∃ t, stepN (n + 1) s = .next t ∧ t.regs = State.reset.regs ∧ t.reads = s.reads ∧ t.events = s.events)
end

