-- ==== Sys2Proof/Laws/Debouncer.lean ====
section
/-! SUPPORT. What the operations and the voter of a Debouncer do, for a window of any size: slot by slot, and in age
order. -/

namespace Sys2Proof.Machine

variable {N : Nat}

theorem Debouncer.sample_idx (d : Debouncer N) (raw : Bool) : (d.sample raw).idx.val = (d.idx.val + 1) % N := rfl

theorem Debouncer.sample_slot (d : Debouncer N) (raw : Bool) (i : Nat) (h : i < N) :
    (d.sample raw).win[i] = if i = d.idx.val then raw else d.win[i] := by
  simp [Debouncer.sample, Vector.getElem_set, eq_comm]

theorem Debouncer.clear_slot (d : Debouncer N) (i : Nat) (h : i < N) : d.clear.win[i] = false := by
  simp [Debouncer.clear]

@[simp] theorem Debouncer.clear_idx (d : Debouncer N) : d.clear.idx = d.idx := rfl
@[simp] theorem Debouncer.clear_win (d : Debouncer N) : d.clear.win = Vector.replicate N false := rfl

theorem Debouncer.count_le (d : Debouncer N) : d.count ≤ N := by
  simpa [Debouncer.count] using List.count_le_length (a := true) (l := d.win.toList)

theorem Debouncer.conf_iff_slots (d : Debouncer N) : d.conf = true ↔ ∀ i (h : i < N), d.win[i] = true := by
  have hlen : d.win.toList.length = N := by simp
  have : d.conf = true ↔ d.win.toList.count true = d.win.toList.length := by
    simp [Debouncer.conf, Debouncer.count]
  rw [this, List.count_eq_length]
  constructor
  · intro h i hi
    exact (h _ (by simp)).symm
  · intro h b hb
    obtain ⟨i, hi, rfl⟩ := List.getElem_of_mem hb
    simpa using (h i (by simpa using hi)).symm

@[simp] theorem Debouncer.ages_length (d : Debouncer N) : d.ages.length = N := by simp [Debouncer.ages]

theorem Debouncer.ages_getElem (d : Debouncer N) (j : Nat) (h : j < N) :
    d.ages[j]'(by simpa using h) = d.win[(d.idx.val + N - (j + 1)) % N]'(Nat.mod_lt _ (by omega)) := by
  simp [Debouncer.ages]

theorem Debouncer.conf_iff_ages (d : Debouncer N) : d.conf = true ↔ ∀ x ∈ d.ages, x = true := by
  rw [Debouncer.conf_iff_slots]
  constructor
  · intro h x hx
    obtain ⟨j, hj, rfl⟩ := List.getElem_of_mem hx
    rw [Debouncer.ages_getElem _ _ (by simpa using hj)]
    exact h _ _
  · intro h i hi
    have hidx := d.idx.isLt
    -- the age of slot i
    have key : ∃ j, ∃ hj : j < N, (d.idx.val + N - (j + 1)) % N = i := by
      by_cases hc : i < d.idx.val
      · refine ⟨d.idx.val - i - 1, by omega, ?_⟩
        rw [show d.idx.val + N - (d.idx.val - i - 1 + 1) = i + N by omega, Nat.add_mod_right, Nat.mod_eq_of_lt hi]
      · refine ⟨d.idx.val + N - i - 1, by omega, ?_⟩
        rw [show d.idx.val + N - (d.idx.val + N - i - 1 + 1) = i by omega, Nat.mod_eq_of_lt hi]
    obtain ⟨j, hj, rfl⟩ := key
    rw [← Debouncer.ages_getElem d j hj]
    exact h _ (List.getElem_mem _)

theorem Debouncer.ages_clear (d : Debouncer N) : d.clear.ages = List.replicate N false := by
  apply List.ext_getElem
  · simp
  · intro j h1 h2
    rw [Debouncer.ages_getElem _ _ (by simpa using h1)]
    simp

theorem Debouncer.ages_reset (h : 0 < N) : (Debouncer.reset N h).ages = List.replicate N false := by
  apply List.ext_getElem
  · simp
  · intro j h1 h2
    rw [Debouncer.ages_getElem _ _ (by simpa using h1)]
    simp [Debouncer.reset]

theorem Debouncer.ages_sample (d : Debouncer N) (raw : Bool) :
    (d.sample raw).ages = raw :: d.ages.dropLast := by
  have hidx := d.idx.isLt
  apply List.ext_getElem
  · simp; omega
  · intro j h1 h2
    have hj : j < N := by simpa using h1
    rw [Debouncer.ages_getElem _ _ hj, Debouncer.sample_slot]
    have hnew : (d.sample raw).idx.val = if d.idx.val + 1 = N then 0 else d.idx.val + 1 := by
      rw [Debouncer.sample_idx]
      split
      · next h => rw [h, Nat.mod_self]
      · exact Nat.mod_eq_of_lt (by omega)
    cases j with
    | zero =>
      have : ((d.sample raw).idx.val + N - (0 + 1)) % N = d.idx.val := by
        rw [hnew]
        split
        · rw [Nat.mod_eq_of_lt (by omega)]; omega
        · rw [show d.idx.val + 1 + N - (0 + 1) = d.idx.val + N by omega, Nat.add_mod_right, Nat.mod_eq_of_lt hidx]
      simp [this]
    | succ j =>
      have e : ((d.sample raw).idx.val + N - (j + 1 + 1)) % N = (d.idx.val + N - (j + 1)) % N := by
        rw [hnew]
        split
        · next h =>
          rw [show d.idx.val + N - (j + 1) = (0 + N - (j + 1 + 1)) + N by omega, Nat.add_mod_right]
        · rw [show d.idx.val + 1 + N - (j + 1 + 1) = d.idx.val + N - (j + 1) by omega]
      have ne : (d.idx.val + N - (j + 1)) % N ≠ d.idx.val := by
        by_cases hc : j + 1 ≤ d.idx.val
        · rw [show d.idx.val + N - (j + 1) = (d.idx.val - (j + 1)) + N by omega, Nat.add_mod_right,
            Nat.mod_eq_of_lt (by omega)]
          omega
        · rw [Nat.mod_eq_of_lt (by omega)]
          omega
      simp only [e, List.getElem_cons_succ, List.getElem_dropLast, if_neg ne]
      rw [Debouncer.ages_getElem d j (by omega)]

theorem Debouncer.conf_clear (h : 0 < N) (d : Debouncer N) : d.clear.conf = false := by
  rw [Bool.eq_false_iff]
  intro hc
  simpa using (Debouncer.conf_iff_slots _).1 hc 0 h

theorem Debouncer.conf_congr {d e : Debouncer N} (h : d.ages = e.ages) : d.conf = e.conf := by
  rw [Bool.eq_iff_iff, Debouncer.conf_iff_ages, Debouncer.conf_iff_ages, h]
end Sys2Proof.Machine
end

