-- ==== Sys2Proof/Laws/State.lean ====
section
/-! SUPPORT. One lemma per field and update of the state, and how updates meet the accessors, so that no later proof
unfolds a record update. -/

namespace Sys2Proof.Machine

/-! ### The Debouncer instances of the register file -/

@[simp] theorem Regs.setDeb_ticks (r : Regs) (b d) : (r.setDeb b d).ticks = r.ticks := by cases b <;> rfl
@[simp] theorem Regs.setDeb_run (r : Regs) (b d) : (r.setDeb b d).run = r.run := by cases b <;> rfl
@[simp] theorem Regs.setDeb_await (r : Regs) (b d) : (r.setDeb b d).await = r.await := by cases b <;> rfl
@[simp] theorem Regs.setDeb_phase (r : Regs) (b d) : (r.setDeb b d).phase = r.phase := by cases b <;> rfl
@[simp] theorem Regs.setDeb_segOut (r : Regs) (b d) : (r.setDeb b d).segOut = r.segOut := by cases b <;> rfl
@[simp] theorem Regs.setDeb_selOut (r : Regs) (b d) : (r.setDeb b d).selOut = r.selOut := by cases b <;> rfl

@[simp] theorem Regs.deb_setDeb (r : Regs) (b c : ButtonId) (d) :
    (r.setDeb b d).deb c = if c = b then d else r.deb c := by
  cases b <;> cases c <;> rfl

@[simp] theorem Regs.deb_start (r : Regs) : r.deb .start = r.debStart := rfl
@[simp] theorem Regs.deb_stop (r : Regs) : r.deb .stop = r.debStop := rfl
@[simp] theorem Regs.deb_reset (r : Regs) : r.deb .reset = r.debReset := rfl

theorem Regs.setDeb_debStart (r : Regs) (b d) : (r.setDeb b d).debStart = if b = .start then d else r.debStart := by cases b <;> rfl
@[simp] theorem Regs.setDeb_start_debStart (r : Regs) (d) : (r.setDeb .start d).debStart = d := rfl
@[simp] theorem Regs.setDeb_stop_debStart (r : Regs) (d) : (r.setDeb .stop d).debStart = r.debStart := rfl
@[simp] theorem Regs.setDeb_reset_debStart (r : Regs) (d) : (r.setDeb .reset d).debStart = r.debStart := rfl
theorem Regs.setDeb_debStop (r : Regs) (b d) : (r.setDeb b d).debStop = if b = .stop then d else r.debStop := by cases b <;> rfl
@[simp] theorem Regs.setDeb_start_debStop (r : Regs) (d) : (r.setDeb .start d).debStop = r.debStop := rfl
@[simp] theorem Regs.setDeb_stop_debStop (r : Regs) (d) : (r.setDeb .stop d).debStop = d := rfl
@[simp] theorem Regs.setDeb_reset_debStop (r : Regs) (d) : (r.setDeb .reset d).debStop = r.debStop := rfl
theorem Regs.setDeb_debReset (r : Regs) (b d) : (r.setDeb b d).debReset = if b = .reset then d else r.debReset := by cases b <;> rfl
@[simp] theorem Regs.setDeb_start_debReset (r : Regs) (d) : (r.setDeb .start d).debReset = r.debReset := rfl
@[simp] theorem Regs.setDeb_stop_debReset (r : Regs) (d) : (r.setDeb .stop d).debReset = r.debReset := rfl
@[simp] theorem Regs.setDeb_reset_debReset (r : Regs) (d) : (r.setDeb .reset d).debReset = d := rfl

@[simp] theorem Regs.setDeb_deb (r : Regs) (b : ButtonId) : r.setDeb b (r.deb b) = r := by cases b <;> rfl

@[simp] theorem Regs.setDeb_setDeb (r : Regs) (b : ButtonId) (d e) : (r.setDeb b d).setDeb b e = r.setDeb b e := by
  cases b <;> rfl

@[simp] theorem Regs.setDeb_selw (r : Regs) (b d) : (r.setDeb b d).selw = r.selw := by cases b <;> rfl

@[simp] theorem Regs.setDeb_ports (r : Regs) (b d) : (r.setDeb b d).ports = r.ports := by cases b <;> rfl

/-! ### setTicks -/

@[simp] theorem State.setTicks_ticks (s : State) (v) : (s.setTicks v).regs.ticks = v := rfl
@[simp] theorem State.setTicks_run (s : State) (v) : (s.setTicks v).regs.run = s.regs.run := rfl
@[simp] theorem State.setTicks_await (s : State) (v) : (s.setTicks v).regs.await = s.regs.await := rfl
@[simp] theorem State.setTicks_phase (s : State) (v) : (s.setTicks v).regs.phase = s.regs.phase := rfl
@[simp] theorem State.setTicks_debStart (s : State) (v) : (s.setTicks v).regs.debStart = s.regs.debStart := rfl
@[simp] theorem State.setTicks_debStop (s : State) (v) : (s.setTicks v).regs.debStop = s.regs.debStop := rfl
@[simp] theorem State.setTicks_debReset (s : State) (v) : (s.setTicks v).regs.debReset = s.regs.debReset := rfl
@[simp] theorem State.setTicks_segOut (s : State) (v) : (s.setTicks v).regs.segOut = s.regs.segOut := rfl
@[simp] theorem State.setTicks_selOut (s : State) (v) : (s.setTicks v).regs.selOut = s.regs.selOut := rfl
@[simp] theorem State.setTicks_deb (s : State) (v) (b) : (s.setTicks v).regs.deb b = s.regs.deb b := by cases b <;> rfl
@[simp] theorem State.setTicks_conf (s : State) (v) (b) : (s.setTicks v).conf b = s.conf b := by cases b <;> rfl
@[simp] theorem State.setTicks_rst (s : State) (v) : (s.setTicks v).rst = s.rst := rfl
@[simp] theorem State.setTicks_slots (s : State) (v) : (s.setTicks v).slots = s.slots := rfl
@[simp] theorem State.setTicks_rstAt (s : State) (v) (n) : (s.setTicks v).rstAt n = s.rstAt n := rfl
@[simp] theorem State.setTicks_answers (s : State) (v) : (s.setTicks v).answers = s.answers := rfl
@[simp] theorem State.setTicks_reads (s : State) (v) : (s.setTicks v).reads = s.reads := rfl
@[simp] theorem State.setTicks_events (s : State) (v) : (s.setTicks v).events = s.events := rfl
@[simp] theorem State.setTicks_returned (s : State) (v) : (s.setTicks v).returned = s.returned := rfl
@[simp] theorem State.setTicks_peek (s : State) (v) (n) : (s.setTicks v).peek n = s.peek n := rfl

/-! ### setRun -/

@[simp] theorem State.setRun_ticks (s : State) (v) : (s.setRun v).regs.ticks = s.regs.ticks := rfl
@[simp] theorem State.setRun_run (s : State) (v) : (s.setRun v).regs.run = v := rfl
@[simp] theorem State.setRun_await (s : State) (v) : (s.setRun v).regs.await = s.regs.await := rfl
@[simp] theorem State.setRun_phase (s : State) (v) : (s.setRun v).regs.phase = s.regs.phase := rfl
@[simp] theorem State.setRun_debStart (s : State) (v) : (s.setRun v).regs.debStart = s.regs.debStart := rfl
@[simp] theorem State.setRun_debStop (s : State) (v) : (s.setRun v).regs.debStop = s.regs.debStop := rfl
@[simp] theorem State.setRun_debReset (s : State) (v) : (s.setRun v).regs.debReset = s.regs.debReset := rfl
@[simp] theorem State.setRun_segOut (s : State) (v) : (s.setRun v).regs.segOut = s.regs.segOut := rfl
@[simp] theorem State.setRun_selOut (s : State) (v) : (s.setRun v).regs.selOut = s.regs.selOut := rfl
@[simp] theorem State.setRun_deb (s : State) (v) (b) : (s.setRun v).regs.deb b = s.regs.deb b := by cases b <;> rfl
@[simp] theorem State.setRun_conf (s : State) (v) (b) : (s.setRun v).conf b = s.conf b := by cases b <;> rfl
@[simp] theorem State.setRun_rst (s : State) (v) : (s.setRun v).rst = s.rst := rfl
@[simp] theorem State.setRun_slots (s : State) (v) : (s.setRun v).slots = s.slots := rfl
@[simp] theorem State.setRun_rstAt (s : State) (v) (n) : (s.setRun v).rstAt n = s.rstAt n := rfl
@[simp] theorem State.setRun_answers (s : State) (v) : (s.setRun v).answers = s.answers := rfl
@[simp] theorem State.setRun_reads (s : State) (v) : (s.setRun v).reads = s.reads := rfl
@[simp] theorem State.setRun_events (s : State) (v) : (s.setRun v).events = s.events := rfl
@[simp] theorem State.setRun_returned (s : State) (v) : (s.setRun v).returned = s.returned := rfl
@[simp] theorem State.setRun_peek (s : State) (v) (n) : (s.setRun v).peek n = s.peek n := rfl

/-! ### setAwait -/

@[simp] theorem State.setAwait_ticks (s : State) (v) : (s.setAwait v).regs.ticks = s.regs.ticks := rfl
@[simp] theorem State.setAwait_run (s : State) (v) : (s.setAwait v).regs.run = s.regs.run := rfl
@[simp] theorem State.setAwait_await (s : State) (v) : (s.setAwait v).regs.await = v := rfl
@[simp] theorem State.setAwait_phase (s : State) (v) : (s.setAwait v).regs.phase = s.regs.phase := rfl
@[simp] theorem State.setAwait_debStart (s : State) (v) : (s.setAwait v).regs.debStart = s.regs.debStart := rfl
@[simp] theorem State.setAwait_debStop (s : State) (v) : (s.setAwait v).regs.debStop = s.regs.debStop := rfl
@[simp] theorem State.setAwait_debReset (s : State) (v) : (s.setAwait v).regs.debReset = s.regs.debReset := rfl
@[simp] theorem State.setAwait_segOut (s : State) (v) : (s.setAwait v).regs.segOut = s.regs.segOut := rfl
@[simp] theorem State.setAwait_selOut (s : State) (v) : (s.setAwait v).regs.selOut = s.regs.selOut := rfl
@[simp] theorem State.setAwait_deb (s : State) (v) (b) : (s.setAwait v).regs.deb b = s.regs.deb b := by cases b <;> rfl
@[simp] theorem State.setAwait_conf (s : State) (v) (b) : (s.setAwait v).conf b = s.conf b := by cases b <;> rfl
@[simp] theorem State.setAwait_rst (s : State) (v) : (s.setAwait v).rst = s.rst := rfl
@[simp] theorem State.setAwait_slots (s : State) (v) : (s.setAwait v).slots = s.slots := rfl
@[simp] theorem State.setAwait_rstAt (s : State) (v) (n) : (s.setAwait v).rstAt n = s.rstAt n := rfl
@[simp] theorem State.setAwait_answers (s : State) (v) : (s.setAwait v).answers = s.answers := rfl
@[simp] theorem State.setAwait_reads (s : State) (v) : (s.setAwait v).reads = s.reads := rfl
@[simp] theorem State.setAwait_events (s : State) (v) : (s.setAwait v).events = s.events := rfl
@[simp] theorem State.setAwait_returned (s : State) (v) : (s.setAwait v).returned = s.returned := rfl
@[simp] theorem State.setAwait_peek (s : State) (v) (n) : (s.setAwait v).peek n = s.peek n := rfl

/-! ### setPhase -/

@[simp] theorem State.setPhase_ticks (s : State) (v) : (s.setPhase v).regs.ticks = s.regs.ticks := rfl
@[simp] theorem State.setPhase_run (s : State) (v) : (s.setPhase v).regs.run = s.regs.run := rfl
@[simp] theorem State.setPhase_await (s : State) (v) : (s.setPhase v).regs.await = s.regs.await := rfl
@[simp] theorem State.setPhase_phase (s : State) (v) : (s.setPhase v).regs.phase = v := rfl
@[simp] theorem State.setPhase_debStart (s : State) (v) : (s.setPhase v).regs.debStart = s.regs.debStart := rfl
@[simp] theorem State.setPhase_debStop (s : State) (v) : (s.setPhase v).regs.debStop = s.regs.debStop := rfl
@[simp] theorem State.setPhase_debReset (s : State) (v) : (s.setPhase v).regs.debReset = s.regs.debReset := rfl
@[simp] theorem State.setPhase_segOut (s : State) (v) : (s.setPhase v).regs.segOut = s.regs.segOut := rfl
@[simp] theorem State.setPhase_selOut (s : State) (v) : (s.setPhase v).regs.selOut = s.regs.selOut := rfl
@[simp] theorem State.setPhase_deb (s : State) (v) (b) : (s.setPhase v).regs.deb b = s.regs.deb b := by cases b <;> rfl
@[simp] theorem State.setPhase_conf (s : State) (v) (b) : (s.setPhase v).conf b = s.conf b := by cases b <;> rfl
@[simp] theorem State.setPhase_rst (s : State) (v) : (s.setPhase v).rst = s.rst := rfl
@[simp] theorem State.setPhase_slots (s : State) (v) : (s.setPhase v).slots = s.slots := rfl
@[simp] theorem State.setPhase_rstAt (s : State) (v) (n) : (s.setPhase v).rstAt n = s.rstAt n := rfl
@[simp] theorem State.setPhase_answers (s : State) (v) : (s.setPhase v).answers = s.answers := rfl
@[simp] theorem State.setPhase_reads (s : State) (v) : (s.setPhase v).reads = s.reads := rfl
@[simp] theorem State.setPhase_events (s : State) (v) : (s.setPhase v).events = s.events := rfl
@[simp] theorem State.setPhase_returned (s : State) (v) : (s.setPhase v).returned = s.returned := rfl
@[simp] theorem State.setPhase_peek (s : State) (v) (n) : (s.setPhase v).peek n = s.peek n := rfl

/-! ### writePorts -/

@[simp] theorem State.writePorts_ticks (s : State) (p : Byte × Byte) : (s.writePorts p).regs.ticks = s.regs.ticks := rfl
@[simp] theorem State.writePorts_run (s : State) (p : Byte × Byte) : (s.writePorts p).regs.run = s.regs.run := rfl
@[simp] theorem State.writePorts_await (s : State) (p : Byte × Byte) : (s.writePorts p).regs.await = s.regs.await := rfl
@[simp] theorem State.writePorts_phase (s : State) (p : Byte × Byte) : (s.writePorts p).regs.phase = s.regs.phase := rfl
@[simp] theorem State.writePorts_debStart (s : State) (p : Byte × Byte) : (s.writePorts p).regs.debStart = s.regs.debStart := rfl
@[simp] theorem State.writePorts_debStop (s : State) (p : Byte × Byte) : (s.writePorts p).regs.debStop = s.regs.debStop := rfl
@[simp] theorem State.writePorts_debReset (s : State) (p : Byte × Byte) : (s.writePorts p).regs.debReset = s.regs.debReset := rfl
@[simp] theorem State.writePorts_segOut (s : State) (p : Byte × Byte) : (s.writePorts p).regs.segOut = p.1 := rfl
@[simp] theorem State.writePorts_selOut (s : State) (p : Byte × Byte) : (s.writePorts p).regs.selOut = p.2 := rfl
@[simp] theorem State.writePorts_deb (s : State) (p : Byte × Byte) (b) : (s.writePorts p).regs.deb b = s.regs.deb b := by cases b <;> rfl
@[simp] theorem State.writePorts_conf (s : State) (p : Byte × Byte) (b) : (s.writePorts p).conf b = s.conf b := by cases b <;> rfl
@[simp] theorem State.writePorts_rst (s : State) (p : Byte × Byte) : (s.writePorts p).rst = s.rst := rfl
@[simp] theorem State.writePorts_slots (s : State) (p : Byte × Byte) : (s.writePorts p).slots = s.slots := rfl
@[simp] theorem State.writePorts_rstAt (s : State) (p : Byte × Byte) (n) : (s.writePorts p).rstAt n = s.rstAt n := rfl
@[simp] theorem State.writePorts_answers (s : State) (p : Byte × Byte) : (s.writePorts p).answers = s.answers := rfl
@[simp] theorem State.writePorts_reads (s : State) (p : Byte × Byte) : (s.writePorts p).reads = s.reads := rfl
@[simp] theorem State.writePorts_events (s : State) (p : Byte × Byte) : (s.writePorts p).events = .portWrite p.1 p.2 :: s.events := rfl
@[simp] theorem State.writePorts_returned (s : State) (p : Byte × Byte) : (s.writePorts p).returned = s.returned := rfl
@[simp] theorem State.writePorts_peek (s : State) (p : Byte × Byte) (n) : (s.writePorts p).peek n = s.peek n := rfl

/-! ### setDeb -/

@[simp] theorem State.setDeb_regs (s : State) (b d) : (s.setDeb b d).regs = s.regs.setDeb b d := rfl
@[simp] theorem State.setDeb_rst (s : State) (b d) : (s.setDeb b d).rst = s.rst := rfl
@[simp] theorem State.setDeb_slots (s : State) (b d) : (s.setDeb b d).slots = s.slots := rfl
@[simp] theorem State.setDeb_rstAt (s : State) (b d) (n) : (s.setDeb b d).rstAt n = s.rstAt n := rfl
@[simp] theorem State.setDeb_answers (s : State) (b d) : (s.setDeb b d).answers = s.answers := rfl
@[simp] theorem State.setDeb_reads (s : State) (b d) : (s.setDeb b d).reads = s.reads := rfl
@[simp] theorem State.setDeb_events (s : State) (b d) : (s.setDeb b d).events = s.events := rfl
@[simp] theorem State.setDeb_returned (s : State) (b d) : (s.setDeb b d).returned = s.returned := rfl
@[simp] theorem State.setDeb_peek (s : State) (b d) (n) : (s.setDeb b d).peek n = s.peek n := rfl

/-! ### afterRead -/

@[simp] theorem State.afterRead_regs (s : State) (b) : (s.afterRead b).regs = s.regs := rfl
@[simp] theorem State.afterRead_rst (s : State) (b) : (s.afterRead b).rst = s.rst := rfl
@[simp] theorem State.afterRead_slots (s : State) (b) : (s.afterRead b).slots = s.slots := rfl
@[simp] theorem State.afterRead_rstAt (s : State) (b) (n) : (s.afterRead b).rstAt n = s.rstAt n := rfl
@[simp] theorem State.afterRead_answers (s : State) (b) : (s.afterRead b).answers = s.answers.tail := rfl
@[simp] theorem State.afterRead_reads (s : State) (b) : (s.afterRead b).reads = s.reads + 1 := rfl
@[simp] theorem State.afterRead_events (s : State) (b) : (s.afterRead b).events = .read b (s.peek 0) :: s.events := rfl
@[simp] theorem State.afterRead_returned (s : State) (b) : (s.afterRead b).returned = s.returned := rfl

/-! ### returnPair -/

@[simp] theorem State.returnPair_regs (s : State) (p) : (s.returnPair p).regs = s.regs := rfl
@[simp] theorem State.returnPair_rst (s : State) (p) : (s.returnPair p).rst = s.rst := rfl
@[simp] theorem State.returnPair_slots (s : State) (p) : (s.returnPair p).slots = s.slots := rfl
@[simp] theorem State.returnPair_rstAt (s : State) (p) (n) : (s.returnPair p).rstAt n = s.rstAt n := rfl
@[simp] theorem State.returnPair_answers (s : State) (p) : (s.returnPair p).answers = s.answers := rfl
@[simp] theorem State.returnPair_reads (s : State) (p) : (s.returnPair p).reads = s.reads := rfl
@[simp] theorem State.returnPair_events (s : State) (p) : (s.returnPair p).events = s.events := rfl
@[simp] theorem State.returnPair_returned (s : State) (p) : (s.returnPair p).returned = some p := rfl
@[simp] theorem State.returnPair_peek (s : State) (p) (n) : (s.returnPair p).peek n = s.peek n := rfl

/-! ### nextRst -/

@[simp] theorem State.nextRst_regs (s : State) : (s.nextRst).regs = s.regs := rfl
@[simp] theorem State.nextRst_rst (s : State) : (s.nextRst).rst = s.rst.tail := rfl
@[simp] theorem State.nextRst_slots (s : State) : (s.nextRst).slots = s.slots + 1 := rfl
/-- A spent slot moves every coming level of RST one place forward. -/
@[simp] theorem State.nextRst_rstAt (s : State) (n) : (s.nextRst).rstAt n = s.rstAt (n + 1) := by
  cases h : s.rst <;> simp [State.rstAt, State.nextRst, h, Nat.add_assoc, Nat.add_comm 1 n]
@[simp] theorem State.nextRst_answers (s : State) : (s.nextRst).answers = s.answers := rfl
@[simp] theorem State.nextRst_reads (s : State) : (s.nextRst).reads = s.reads := rfl
@[simp] theorem State.nextRst_events (s : State) : (s.nextRst).events = s.events := rfl
@[simp] theorem State.nextRst_returned (s : State) : (s.nextRst).returned = s.returned := rfl
@[simp] theorem State.nextRst_peek (s : State) (n) : (s.nextRst).peek n = s.peek n := rfl

/-! ### releaseRst -/

@[simp] theorem State.releaseRst_regs (s : State) (n) : (s.releaseRst n).regs = s.regs := rfl
@[simp] theorem State.releaseRst_slots (s : State) (n) : (s.releaseRst n).slots = s.slots := rfl
@[simp] theorem State.releaseRst_answers (s : State) (n) : (s.releaseRst n).answers = s.answers := rfl
@[simp] theorem State.releaseRst_reads (s : State) (n) : (s.releaseRst n).reads = s.reads := rfl
@[simp] theorem State.releaseRst_events (s : State) (n) : (s.releaseRst n).events = s.events := rfl
@[simp] theorem State.releaseRst_returned (s : State) (n) : (s.releaseRst n).returned = s.returned := rfl
@[simp] theorem State.releaseRst_peek (s : State) (n k) : (s.releaseRst n).peek k = s.peek k := rfl

/-- The released slots read false, the later ones as before. -/
theorem State.releaseRst_rstAt (s : State) (n k) :
    (s.releaseRst n).rstAt k = if k < n then false else s.rstAt k := by
  by_cases h : k < n
  · simp [State.rstAt, State.releaseRst, h, List.getD_eq_getElem?_getD, List.getElem?_append]
  · have hk : n + (k - n) = k := by omega
    simp [State.rstAt, State.releaseRst, h, List.getD_eq_getElem?_getD, List.getElem?_append, hk]

/-! ### hardwareReset -/

@[simp] theorem State.hardwareReset_regs (s : State) : (s.hardwareReset).regs = Regs.reset := rfl
@[simp] theorem State.hardwareReset_rst (s : State) : (s.hardwareReset).rst = s.rst := rfl
@[simp] theorem State.hardwareReset_slots (s : State) : (s.hardwareReset).slots = s.slots := rfl
@[simp] theorem State.hardwareReset_rstAt (s : State) (n) : (s.hardwareReset).rstAt n = s.rstAt n := rfl
@[simp] theorem State.hardwareReset_answers (s : State) : (s.hardwareReset).answers = s.answers := rfl
@[simp] theorem State.hardwareReset_reads (s : State) : (s.hardwareReset).reads = s.reads := rfl
@[simp] theorem State.hardwareReset_events (s : State) : (s.hardwareReset).events = s.events := rfl
@[simp] theorem State.hardwareReset_returned (s : State) : (s.hardwareReset).returned = s.returned := rfl
@[simp] theorem State.hardwareReset_peek (s : State) (n) : (s.hardwareReset).peek n = s.peek n := rfl

/-- A read moves every coming read one place forward. -/
@[simp] theorem State.afterRead_peek (s : State) (b n) : (s.afterRead b).peek n = s.peek (n + 1) := by
  obtain ⟨r, rst, slots, answers, reads, ev, ret⟩ := s
  cases answers <;> simp [State.peek, State.afterRead, Nat.add_assoc, Nat.add_comm 1 n]

/-! ### The Debouncer operations on the state -/

@[simp] theorem State.sampleDeb_regs (s : State) (b raw) :
    (s.sampleDeb b raw).regs = s.regs.setDeb b ((s.regs.deb b).sample raw) := rfl
@[simp] theorem State.clearDeb_regs (s : State) (b) : (s.clearDeb b).regs = s.regs.setDeb b (s.regs.deb b).clear := rfl
@[simp] theorem State.holdDeb_eq (s : State) (b) : s.holdDeb b = s := by
  simp [State.holdDeb, State.setDeb]

@[simp] theorem State.sampleDeb_rst (s : State) (b raw) : (s.sampleDeb b raw).rst = s.rst := rfl
@[simp] theorem State.sampleDeb_slots (s : State) (b raw) : (s.sampleDeb b raw).slots = s.slots := rfl
@[simp] theorem State.sampleDeb_rstAt (s : State) (b raw) (n) : (s.sampleDeb b raw).rstAt n = s.rstAt n := rfl
@[simp] theorem State.sampleDeb_answers (s : State) (b raw) : (s.sampleDeb b raw).answers = s.answers := rfl
@[simp] theorem State.sampleDeb_reads (s : State) (b raw) : (s.sampleDeb b raw).reads = s.reads := rfl
@[simp] theorem State.sampleDeb_events (s : State) (b raw) : (s.sampleDeb b raw).events = s.events := rfl
@[simp] theorem State.sampleDeb_returned (s : State) (b raw) : (s.sampleDeb b raw).returned = s.returned := rfl
@[simp] theorem State.sampleDeb_peek (s : State) (b raw) (n) : (s.sampleDeb b raw).peek n = s.peek n := rfl
@[simp] theorem State.clearDeb_rst (s : State) (b) : (s.clearDeb b).rst = s.rst := rfl
@[simp] theorem State.clearDeb_slots (s : State) (b) : (s.clearDeb b).slots = s.slots := rfl
@[simp] theorem State.clearDeb_rstAt (s : State) (b) (n) : (s.clearDeb b).rstAt n = s.rstAt n := rfl
@[simp] theorem State.clearDeb_answers (s : State) (b) : (s.clearDeb b).answers = s.answers := rfl
@[simp] theorem State.clearDeb_reads (s : State) (b) : (s.clearDeb b).reads = s.reads := rfl
@[simp] theorem State.clearDeb_events (s : State) (b) : (s.clearDeb b).events = s.events := rfl
@[simp] theorem State.clearDeb_returned (s : State) (b) : (s.clearDeb b).returned = s.returned := rfl
@[simp] theorem State.clearDeb_peek (s : State) (b) (n) : (s.clearDeb b).peek n = s.peek n := rfl

/-! ### Two register files are equal when every register is -/

theorem Regs.eq_of_fields {r r' : Regs} (h1 : r.ticks = r'.ticks) (h2 : r.run = r'.run) (h3 : r.await = r'.await)
    (h4 : r.phase = r'.phase) (h5 : ∀ b, r.deb b = r'.deb b) (h6 : r.segOut = r'.segOut)
    (h7 : r.selOut = r'.selOut) : r = r' := by
  obtain ⟨⟩ := r
  obtain ⟨⟩ := r'
  have a := h5 .start
  have b := h5 .stop
  have c := h5 .reset
  simp_all

end Sys2Proof.Machine
end

