-- ==== Sys2Proof/Laws/Controller.lean ====
section
/-! SUPPORT. What the shared operations of the controller do, said once: the tick, the three samples, the transition,
one poll of the release-wait, and the end states of the four controller operations. -/

namespace Sys2Proof.Machine

/-! ### The tick -/

theorem State.tick_ticks (s : State) :
    s.tick.regs.ticks = if s.regs.run = .running then nextTicks s.regs.ticks else s.regs.ticks := by
  cases h : s.regs.run <;> simp [State.tick, h]

@[simp] theorem State.tick_run (s : State) : s.tick.regs.run = s.regs.run := by
  cases h : s.regs.run <;> simp [State.tick, h]
@[simp] theorem State.tick_await (s : State) : s.tick.regs.await = s.regs.await := by
  cases h : s.regs.run <;> simp [State.tick, h]
@[simp] theorem State.tick_phase (s : State) : s.tick.regs.phase = s.regs.phase := by
  cases h : s.regs.run <;> simp [State.tick, h]
@[simp] theorem State.tick_deb (s : State) (b) : s.tick.regs.deb b = s.regs.deb b := by
  cases h : s.regs.run <;> simp [State.tick, h]
@[simp] theorem State.tick_segOut (s : State) : s.tick.regs.segOut = s.regs.segOut := by
  cases h : s.regs.run <;> simp [State.tick, h]
@[simp] theorem State.tick_selOut (s : State) : s.tick.regs.selOut = s.regs.selOut := by
  cases h : s.regs.run <;> simp [State.tick, h]
@[simp] theorem State.tick_rst (s : State) : s.tick.rst = s.rst := by
  cases h : s.regs.run <;> simp [State.tick, h]
@[simp] theorem State.tick_slots (s : State) : s.tick.slots = s.slots := by
  cases h : s.regs.run <;> simp [State.tick, h]
@[simp] theorem State.tick_rstAt (s : State) (n) : s.tick.rstAt n = s.rstAt n := by
  simp [State.rstAt]
@[simp] theorem State.tick_answers (s : State) : s.tick.answers = s.answers := by
  cases h : s.regs.run <;> simp [State.tick, h]
@[simp] theorem State.tick_reads (s : State) : s.tick.reads = s.reads := by
  cases h : s.regs.run <;> simp [State.tick, h]
@[simp] theorem State.tick_events (s : State) : s.tick.events = s.events := by
  cases h : s.regs.run <;> simp [State.tick, h]
@[simp] theorem State.tick_returned (s : State) : s.tick.returned = s.returned := by
  cases h : s.regs.run <;> simp [State.tick, h]
@[simp] theorem State.tick_peek (s : State) (n) : s.tick.peek n = s.peek n := by
  simp [State.peek]

/-! ### The three samples -/

@[simp] theorem State.sampleButton_regs (s : State) (b) :
    (s.sampleButton b).regs = s.regs.setDeb b ((s.regs.deb b).sample (s.peek 0)) := rfl

/-- Start takes the first coming read, Stop the second, Reset the third. -/
theorem State.sampleButtons_deb (s : State) (b) : s.sampleButtons.regs.deb b = s.sampled b := by
  cases b <;> simp [State.sampleButtons, State.sampleButton, State.sampled, ButtonId.index]

theorem State.sampleButtons_conf (s : State) (b) : s.sampleButtons.conf b = (s.sampled b).conf := by
  rw [State.conf, State.sampleButtons_deb]

@[simp] theorem State.sampleButtons_ticks (s : State) : s.sampleButtons.regs.ticks = s.regs.ticks := rfl
@[simp] theorem State.sampleButtons_run (s : State) : s.sampleButtons.regs.run = s.regs.run := rfl
@[simp] theorem State.sampleButtons_await (s : State) : s.sampleButtons.regs.await = s.regs.await := rfl
@[simp] theorem State.sampleButtons_phase (s : State) : s.sampleButtons.regs.phase = s.regs.phase := rfl
@[simp] theorem State.sampleButtons_segOut (s : State) : s.sampleButtons.regs.segOut = s.regs.segOut := rfl
@[simp] theorem State.sampleButtons_selOut (s : State) : s.sampleButtons.regs.selOut = s.regs.selOut := rfl
@[simp] theorem State.sampleButtons_rst (s : State) : s.sampleButtons.rst = s.rst := rfl
@[simp] theorem State.sampleButtons_slots (s : State) : s.sampleButtons.slots = s.slots := rfl
@[simp] theorem State.sampleButtons_rstAt (s : State) (n) : s.sampleButtons.rstAt n = s.rstAt n := rfl
@[simp] theorem State.sampleButtons_returned (s : State) : s.sampleButtons.returned = s.returned := rfl
@[simp] theorem State.sampleButtons_reads (s : State) : s.sampleButtons.reads = s.reads + 3 := rfl

theorem State.sampleButtons_answers (s : State) : s.sampleButtons.answers = s.answers.drop 3 := by
  have tails : ∀ l : List Bool, l.tail.tail.tail = l.drop 3 := by
    rintro (_ | ⟨_, _ | ⟨_, _ | _⟩⟩) <;> rfl
  exact tails _

theorem State.sampleButtons_events (s : State) : s.sampleButtons.events =
    .read .reset (s.peek 2) :: .read .stop (s.peek 1) :: .read .start (s.peek 0) :: s.events := by
  simp [State.sampleButtons, State.sampleButton]

theorem State.sampleButtons_peek (s : State) (n) : s.sampleButtons.peek n = s.peek (n + 3) := by
  simp [State.sampleButtons, State.sampleButton]

@[simp] theorem State.tick_sampled (s : State) (b) : s.tick.sampled b = s.sampled b := by
  simp [State.sampled]

/-! ### The transition -/

/-- At most one transition is taken: Reset first, then the one RUN admits (R94). -/
theorem State.transition_cases (s : State) :
    (s.conf .reset = true ∧ s.transition = s.resetTransition) ∨
    (s.conf .reset = false ∧ s.regs.run = .stopped ∧ s.conf .start = true ∧ s.transition = s.startTransition) ∨
    (s.conf .reset = false ∧ s.regs.run = .running ∧ s.conf .stop = true ∧ s.transition = s.stopTransition) ∨
    (s.conf .reset = false ∧ (s.regs.run = .stopped → s.conf .start = false) ∧
      (s.regs.run = .running → s.conf .stop = false) ∧ s.transition = s) := by
  cases hr : s.conf .reset <;> cases hs : s.conf .start <;> cases hp : s.conf .stop <;>
    cases hrun : s.regs.run <;> simp [State.transition, hr, hs, hp, hrun]

theorem State.transition_reset {s : State} (h : s.conf .reset = true) : s.transition = s.resetTransition := by
  simp [State.transition, h]

theorem State.transition_start {s : State} (hr : s.conf .reset = false) (hrun : s.regs.run = .stopped)
    (h : s.conf .start = true) : s.transition = s.startTransition := by
  simp [State.transition, hr, hrun, h]

theorem State.transition_stop {s : State} (hr : s.conf .reset = false) (hrun : s.regs.run = .running)
    (h : s.conf .stop = true) : s.transition = s.stopTransition := by
  simp [State.transition, hr, hrun, h]

theorem State.transition_none {s : State} (hr : s.conf .reset = false)
    (hs : s.regs.run = .stopped → s.conf .start = false) (hp : s.regs.run = .running → s.conf .stop = false) :
    s.transition = s := by
  cases hrun : s.regs.run
  · simp [State.transition, hr, hs hrun, hrun]
  · simp [State.transition, hr, hp hrun, hrun]

/-! A transition writes RUN, TICKS, AWAIT and windows; PHASE, the ports, the inputs and the observation stay. -/

@[simp] theorem State.transition_phase (s : State) : s.transition.regs.phase = s.regs.phase := by
  rcases s.transition_cases with ⟨_, h⟩ | ⟨_, _, _, h⟩ | ⟨_, _, _, h⟩ | ⟨_, _, _, h⟩ <;> rw [h] <;> rfl
@[simp] theorem State.transition_segOut (s : State) : s.transition.regs.segOut = s.regs.segOut := by
  rcases s.transition_cases with ⟨_, h⟩ | ⟨_, _, _, h⟩ | ⟨_, _, _, h⟩ | ⟨_, _, _, h⟩ <;> rw [h] <;> rfl
@[simp] theorem State.transition_selOut (s : State) : s.transition.regs.selOut = s.regs.selOut := by
  rcases s.transition_cases with ⟨_, h⟩ | ⟨_, _, _, h⟩ | ⟨_, _, _, h⟩ | ⟨_, _, _, h⟩ <;> rw [h] <;> rfl
@[simp] theorem State.transition_rst (s : State) : s.transition.rst = s.rst := by
  rcases s.transition_cases with ⟨_, h⟩ | ⟨_, _, _, h⟩ | ⟨_, _, _, h⟩ | ⟨_, _, _, h⟩ <;> rw [h] <;> rfl
@[simp] theorem State.transition_slots (s : State) : s.transition.slots = s.slots := by
  rcases s.transition_cases with ⟨_, h⟩ | ⟨_, _, _, h⟩ | ⟨_, _, _, h⟩ | ⟨_, _, _, h⟩ <;> rw [h] <;> rfl
@[simp] theorem State.transition_rstAt (s : State) (n) : s.transition.rstAt n = s.rstAt n := by
  simp [State.rstAt]
@[simp] theorem State.transition_answers (s : State) : s.transition.answers = s.answers := by
  rcases s.transition_cases with ⟨_, h⟩ | ⟨_, _, _, h⟩ | ⟨_, _, _, h⟩ | ⟨_, _, _, h⟩ <;> rw [h] <;> rfl
@[simp] theorem State.transition_reads (s : State) : s.transition.reads = s.reads := by
  rcases s.transition_cases with ⟨_, h⟩ | ⟨_, _, _, h⟩ | ⟨_, _, _, h⟩ | ⟨_, _, _, h⟩ <;> rw [h] <;> rfl
@[simp] theorem State.transition_events (s : State) : s.transition.events = s.events := by
  rcases s.transition_cases with ⟨_, h⟩ | ⟨_, _, _, h⟩ | ⟨_, _, _, h⟩ | ⟨_, _, _, h⟩ <;> rw [h] <;> rfl
@[simp] theorem State.transition_returned (s : State) : s.transition.returned = s.returned := by
  rcases s.transition_cases with ⟨_, h⟩ | ⟨_, _, _, h⟩ | ⟨_, _, _, h⟩ | ⟨_, _, _, h⟩ <;> rw [h] <;> rfl
@[simp] theorem State.transition_peek (s : State) (n) : s.transition.peek n = s.peek n := by
  simp [State.peek]

/-- No transition moves an index. -/
theorem State.transition_idx (s : State) (b) : (s.transition.regs.deb b).idx = (s.regs.deb b).idx := by
  rcases s.transition_cases with ⟨_, h⟩ | ⟨_, _, _, h⟩ | ⟨_, _, _, h⟩ | ⟨_, _, _, h⟩ <;> rw [h] <;> cases b <;> rfl

/-! ### One poll of the release-wait -/

theorem State.pollRelease_regs (s : State) (b) : (s.pollRelease b).regs =
    if s.peek 0 = true then s.regs else { s.regs with await := awaitNone } := by
  cases h : s.peek 0
  · simp only [State.pollRelease, h]; rfl
  · simp only [State.pollRelease, h]; rfl

@[simp] theorem State.pollRelease_rst (s : State) (b) : (s.pollRelease b).rst = s.rst := by
  cases h : s.peek 0 <;> simp [State.pollRelease, h]
@[simp] theorem State.pollRelease_slots (s : State) (b) : (s.pollRelease b).slots = s.slots := by
  cases h : s.peek 0 <;> simp [State.pollRelease, h]
@[simp] theorem State.pollRelease_rstAt (s : State) (b) (n) : (s.pollRelease b).rstAt n = s.rstAt n := by
  simp [State.rstAt]
@[simp] theorem State.pollRelease_answers (s : State) (b) : (s.pollRelease b).answers = s.answers.tail := by
  cases h : s.peek 0 <;> simp [State.pollRelease, h]
@[simp] theorem State.pollRelease_reads (s : State) (b) : (s.pollRelease b).reads = s.reads + 1 := by
  cases h : s.peek 0 <;> simp [State.pollRelease, h]
@[simp] theorem State.pollRelease_events (s : State) (b) :
    (s.pollRelease b).events = .read b (s.peek 0) :: s.events := by
  cases h : s.peek 0 <;> simp [State.pollRelease, h]
@[simp] theorem State.pollRelease_returned (s : State) (b) : (s.pollRelease b).returned = s.returned := by
  cases h : s.peek 0 <;> simp [State.pollRelease, h]
@[simp] theorem State.pollRelease_peek (s : State) (b n) : (s.pollRelease b).peek n = s.peek (n + 1) := by
  cases h : s.peek 0 <;> simp [State.pollRelease, h]

end Sys2Proof.Machine
end

