-- ==== Sys2Proof/Laws/PerInstr.lean ====
section
/-! SUPPORT. A statement about every operation as syntax, one lemma per constructor: the bits its encoding drives match
its row of spec/opcode_table.json under the row's mask. -/

namespace Sys2Proof.Laws.TableRow

/-- The encoding of an operation lies in the row the opcode table gives it. -/
def Statement (i : Instr) : Prop := (encode i).tableBits &&& i.tableMatch.2 = i.tableMatch.1

theorem ctlRender (k : DigitPos) : Statement (.ctlRender k) := by
  revert k
  unfold Statement
  decide

theorem ctlUpdate : Statement .ctlUpdate := rfl

theorem ctlAwaitStart : Statement .ctlAwaitStart := rfl

theorem ctlAwaitReset : Statement .ctlAwaitReset := rfl

theorem debHold (b : ButtonId) : Statement (.debHold b) := by
  simp [Statement, encode, ControlWord.tableBits, Instr.tableMatch]

theorem debSample (b : ButtonId) (raw : Bool) : Statement (.debSample b raw) := by
  simp [Statement, encode, ControlWord.tableBits, Instr.tableMatch]

theorem debClear (b : ButtonId) : Statement (.debClear b) := by
  simp [Statement, encode, ControlWord.tableBits, Instr.tableMatch]

theorem drRender (v : Nat) (k : DigitPos) : Statement (.drRender v k) := by
  simp [Statement, Instr.tableMatch]

end Sys2Proof.Laws.TableRow
end

