-- ==== Sys2Proof/Laws/Step.lean ====
section
/-! SUPPORT. What a step can do, said once: which selector decodes to which operation, and the inversion of a step
that answers a next state. -/

namespace Sys2Proof.Machine

/-- Only the four controller operations are decoded from SELW, each from the selectors of its row of R54. -/
theorem decode_selw_ok {w : SelWord} {i : Instr} (h : decode (.selw w) = .ok i) :
    (∃ k : DigitPos, i = .ctlRender k ∧ w = awaitNone ++ BitVec.ofNat 3 k.val) ∨
    (i = .ctlUpdate ∧ w = awaitNone ++ 4#3) ∨
    (i = .ctlAwaitStart ∧ w = awaitStart ++ 0#3) ∨ (i = .ctlAwaitReset ∧ w = awaitReset ++ 0#3) := by
  have key : ∀ w : SelWord,
      (∃ k : DigitPos, decode (.selw w) = .ok (.ctlRender k) ∧ w = awaitNone ++ BitVec.ofNat 3 k.val) ∨
      (decode (.selw w) = .ok .ctlUpdate ∧ w = awaitNone ++ 4#3) ∨
      (decode (.selw w) = .ok .ctlAwaitStart ∧ w = awaitStart ++ 0#3) ∨
      (decode (.selw w) = .ok .ctlAwaitReset ∧ w = awaitReset ++ 0#3) ∨
      decode (.selw w) = .error (.illegalSelector w) := by decide
  rcases key w with ⟨k, hk, hw⟩ | ⟨hk, hw⟩ | ⟨hk, hw⟩ | ⟨hk, hw⟩ | hk <;> rw [h] at hk
  · exact .inl ⟨k, Except.ok.inj hk, hw⟩
  · exact .inr (.inl ⟨Except.ok.inj hk, hw⟩)
  · exact .inr (.inr (.inl ⟨Except.ok.inj hk, hw⟩))
  · exact .inr (.inr (.inr ⟨Except.ok.inj hk, hw⟩))
  · cases hk

/-- A selector that is no operation is rejected under its own name. -/
theorem decode_selw_error {w : SelWord} {e : DecodeReject} (h : decode (.selw w) = .error e) :
    e = .illegalSelector w := by
  simp only [decode, decodeSelw] at h
  split at h <;> (try split at h) <;> (try split at h) <;> (try split at h) <;> simp_all

/-- The two fields of a selector word. -/
theorem Regs.selw_eq_iff (r : Regs) (a : AwaitField) (p : PhaseField) :
    r.selw = a ++ p ↔ r.await = a ∧ r.phase = p := by
  have key : ∀ a b : AwaitField, ∀ p q : PhaseField, a ++ p = b ++ q ↔ a = b ∧ p = q := by decide
  exact key _ _ _ _

theorem State.rst_cases (s : State) : s.rstAsserted = true ∨ s.rstAsserted = false := by
  cases s.rstAsserted <;> simp

/-- While RST is asserted a step slot only resets the registers (R121). -/
theorem step_of_rst {s : State} (h : s.rstAsserted = true) : step s = .next s.nextRst.hardwareReset := by
  simp [step, stepSlot, h]

theorem step_of_decode {s : State} {i : Instr} (hr : s.rstAsserted = false)
    (hd : decode (.selw s.regs.selw) = .ok i) : step s = exec i s.nextRst := by
  simp [step, stepSlot, driveWord, hr, hd]

theorem step_render {s : State} (k : DigitPos) (hr : s.rstAsserted = false) (ha : s.regs.await = awaitNone)
    (hp : s.regs.phase = BitVec.ofNat 3 k.val) : step s = execCtlRender k s.nextRst := by
  refine step_of_decode (i := .ctlRender k) hr ?_
  rw [(s.regs.selw_eq_iff _ _).2 ⟨ha, hp⟩]
  exact (by decide : ∀ k : DigitPos, decode (.selw (awaitNone ++ BitVec.ofNat 3 k.val)) = .ok (.ctlRender k)) k

theorem step_update {s : State} (hr : s.rstAsserted = false) (ha : s.regs.await = awaitNone)
    (hp : s.regs.phase = 4#3) : step s = execCtlUpdate s.nextRst := by
  refine step_of_decode (i := .ctlUpdate) hr ?_
  rw [(s.regs.selw_eq_iff _ _).2 ⟨ha, hp⟩]
  decide

theorem step_awaitStart {s : State} (hr : s.rstAsserted = false) (ha : s.regs.await = awaitStart)
    (hp : s.regs.phase = 0#3) : step s = execCtlAwaitStart s.nextRst := by
  refine step_of_decode (i := .ctlAwaitStart) hr ?_
  rw [(s.regs.selw_eq_iff _ _).2 ⟨ha, hp⟩]
  decide

theorem step_awaitReset {s : State} (hr : s.rstAsserted = false) (ha : s.regs.await = awaitReset)
    (hp : s.regs.phase = 0#3) : step s = execCtlAwaitReset s.nextRst := by
  refine step_of_decode (i := .ctlAwaitReset) hr ?_
  rw [(s.regs.selw_eq_iff _ _).2 ⟨ha, hp⟩]
  decide

/-- Everything a step that answers a next state can have done: a reset slot, or one controller operation, in the
states whose selector chooses it. -/
theorem step_next_cases {s t : State} (h : step s = .next t) :
    (s.rstAsserted = true ∧ t = s.nextRst.hardwareReset) ∨
    (s.rstAsserted = false ∧ ∃ k : DigitPos, s.regs.await = awaitNone ∧ s.regs.phase = BitVec.ofNat 3 k.val ∧
      t = (s.nextRst.writePorts (renderPair s.regs.ticks.val k)).setPhase (BitVec.ofNat 3 (k.val + 1))) ∨
    (s.rstAsserted = false ∧ s.regs.await = awaitNone ∧ s.regs.phase = 4#3 ∧
      t = s.nextRst.tick.sampleButtons.transition.setPhase 0) ∨
    (s.rstAsserted = false ∧ s.regs.await = awaitStart ∧ s.regs.phase = 0#3 ∧ t = s.nextRst.pollRelease .start) ∨
    (s.rstAsserted = false ∧ s.regs.await = awaitReset ∧ s.regs.phase = 0#3 ∧ t = s.nextRst.pollRelease .reset) := by
  rcases s.rst_cases with hr | hr
  · rw [step_of_rst hr] at h
    exact .inl ⟨hr, (Host.Outcome.next.inj h).symm⟩
  · refine .inr ?_
    cases hd : decode (.selw s.regs.selw) with
    | error e => cases e <;> simp [step, stepSlot, driveWord, rejectOutcome, hr, hd] at h
    | ok i =>
      rw [step_of_decode hr hd] at h
      rcases decode_selw_ok hd with ⟨k, rfl, hw⟩ | ⟨rfl, hw⟩ | ⟨rfl, hw⟩ | ⟨rfl, hw⟩ <;>
        rw [Regs.selw_eq_iff] at hw <;> obtain ⟨ha, hp⟩ := hw
      · exact .inl ⟨hr, k, ha, hp, (Host.Outcome.next.inj h).symm⟩
      · exact .inr (.inl ⟨hr, ha, hp, (Host.Outcome.next.inj h).symm⟩)
      · exact .inr (.inr (.inl ⟨hr, ha, hp, (Host.Outcome.next.inj h).symm⟩))
      · exact .inr (.inr (.inr ⟨hr, ha, hp, (Host.Outcome.next.inj h).symm⟩))

/-- The registers a CTL.UPDATE leaves, before PHASE returns to 0, in terms of the state before it. -/
theorem update_window (s : State) (b) : s.tick.sampleButtons.regs.deb b = s.sampled b := by
  rw [State.sampleButtons_deb, State.tick_sampled]

theorem update_conf (s : State) (b) : s.tick.sampleButtons.conf b = (s.sampled b).conf := by
  rw [State.sampleButtons_conf, State.tick_sampled]

end Sys2Proof.Machine
end

