-- ==== Sys2Proof/Tests/Slice0.lean ====
section
/-! SUPPORT. Decode tests from the encodings of 30_encoding.md, well-formedness smoke tests, single-step tests with the
expected results of 95_test_vectors.md (the vector is named at each), and for every statement with hypotheses a state
and operands that meet them. -/

namespace Sys2Proof.Tests

open Sys2Proof.Machine

/-! ### Well-formedness: the ill-formed terms -/

theorem test_wf_refuses_wide_value : (Instr.drRender 16384 0).wellFormed = false := by decide
theorem test_wf_accepts_widest_value : (Instr.drRender 16383 3).wellFormed = true := by decide
theorem test_wf_refuses_empty_repeats : (PseudoLine.cycleTimes 0 true false false).wellFormed = false ∧
    (PseudoLine.idle 0).wellFormed = false ∧ (PseudoLine.press 0 .stop).wellFormed = false := by decide

/-! ### Decoding: words written out from R54, R55, R53 -/

theorem test_decode_ctlRender : decode (.selw 0b00010#5) = .ok (.ctlRender 2) := by decide
theorem test_decode_ctlUpdate : decode (.selw 0b00100#5) = .ok .ctlUpdate := by decide
theorem test_decode_ctlAwaitStart : decode (.selw 0b01000#5) = .ok .ctlAwaitStart := by decide
theorem test_decode_ctlAwaitReset : decode (.selw 0b10000#5) = .ok .ctlAwaitReset := by decide
theorem test_decode_debHold : decode (.debctl .stop 0b00#2 true) = .ok (.debHold .stop) := by decide
theorem test_decode_debSample : decode (.debctl .start 0b01#2 true) = .ok (.debSample .start true) := by decide
theorem test_decode_debClear : decode (.debctl .reset 0b10#2 false) = .ok (.debClear .reset) := by decide
theorem test_decode_drRender : decode (.drsel 0b11#2 5060#14) = .ok (.drRender 5060 3) := by decide
theorem test_decode_debctl_reserved : decode (.debctl .start 0b11#2 true) = .error (.debCtlReserved .start) := by decide
theorem test_reserved_selectors :
    ((List.range 32).filter fun n => (decodeTableWord 8 n).isNone).length = 25 := by decide
theorem test_table_words : decodeTableWord 8 0b00011 = some (.ctlRender 3) ∧ decodeTableWord 8 0b10000 = some .ctlAwaitReset ∧
    decodeTableWord 8 0b01001 = none ∧ decodeTableWord 8 0b00100000 = none := by decide
theorem test_written_forms : (Instr.debSample .start true).written = "DEB.SAMPLE Start, 1" ∧
    (Instr.drRender 1234 2).written = "DR.RENDER 1234, 2" := by decide

/-! ### States for the tests -/

/-- The next state of an outcome. -/
def nextOf : Host.Outcome State Fault Refusal → Option State
  | .next s => some s
  | .fault _ => none
  | .refused _ => none

/-- The fault of an outcome. -/
def faultOf : Host.Outcome State Fault Refusal → Option Fault
  | .next _ => none
  | .fault f => some f
  | .refused _ => none

/-- The refusal of an outcome. -/
def refusalOf : Host.Outcome State Fault Refusal → Option Refusal
  | .next _ => none
  | .fault _ => none
  | .refused r => some r

/-- A Debouncer with N = 5. -/
def deb (win : Vector Bool 5) (idx : Fin 5) : Debouncer 5 := ⟨win, idx⟩

/-- A clear Debouncer. -/
def clearDeb (idx : Fin 5) : Debouncer 5 := deb (Vector.replicate 5 false) idx

/-- A full Debouncer. -/
def fullDeb (idx : Fin 5) : Debouncer 5 := deb (Vector.replicate 5 true) idx

/-- The window 11110, which one true sample at index 4 fills. -/
def almost : Debouncer 5 := deb #v[true, true, true, true, false] 4

/-- The machine after reset, RST released for the coming step slots. -/
def released : State := State.reset.releaseRst 30

/-- A state with a selector, the stopwatch's registers, three Debouncers and the environment's answers. -/
def mk (sel : SelWord) (run : RunState) (ticks : Fin 10000) (s p r : Debouncer 5) (answers : List Bool) : State :=
  { released.setSelw sel with
    regs := { (released.setSelw sel).regs with run := run, ticks := ticks, debStart := s, debStop := p, debReset := r }
    answers := answers }

/-! ### One step of each operation -/

/-- K0: TICKS = 5060. -/
theorem test_ctlRender_K0 :
    (nextOf (step (mk 0b00000#5 .stopped 5060 (clearDeb 0) (clearDeb 0) (clearDeb 0) []))).map
      (fun t => (t.regs.ports, t.regs.phase)) = some ((0x3F#8, 0x08#8), 1#3) := by decide
/-- K1. -/
theorem test_ctlRender_K1 :
    (nextOf (step (mk 0b00001#5 .stopped 5060 (clearDeb 0) (clearDeb 0) (clearDeb 0) []))).map
      (fun t => (t.regs.ports, t.regs.phase)) = some ((0x7D#8, 0x04#8), 2#3) := by decide
/-- U5: the tick of the cycle has happened when Stop is confirmed. -/
theorem test_ctlUpdate_U5 :
    (nextOf (step (mk 0b00100#5 .running 3 (clearDeb 0) (deb #v[false, true, true, true, true] 0) (clearDeb 0)
      [false, true, false]))).map (fun t => (t.regs.run, t.regs.ticks.val, t.regs.selw, t.regs.debStop)) =
      some (.stopped, 4, 0b00000#5, clearDeb 1) := by decide
/-- U10: Reset wins over Start, whose window stays full. -/
theorem test_ctlUpdate_U10 :
    (nextOf (step (mk 0b00100#5 .stopped 3 almost (clearDeb 4) almost [true, false, true]))).map
      (fun t => (t.regs.run, t.regs.ticks.val, t.regs.selw, t.regs.debStart, t.regs.debReset)) =
      some (.stopped, 0, 0b10000#5, fullDeb 0, fullDeb 0) := by decide
/-- A1. -/
theorem test_ctlAwaitStart_A1 :
    (nextOf (step (mk 0b01000#5 .running 7 (clearDeb 0) (clearDeb 0) (clearDeb 0) [true]))).map (fun t => t.regs.selw) =
      some 0b01000#5 := by decide
/-- A2. -/
theorem test_ctlAwaitStart_A2 :
    (nextOf (step (mk 0b01000#5 .running 7 (clearDeb 0) (clearDeb 0) (clearDeb 0) [false]))).map
      (fun t => (t.regs.selw, t.regs.ticks.val)) = some (0b00000#5, 7) := by decide
/-- A3. -/
theorem test_ctlAwaitReset_A3 :
    (nextOf (step (mk 0b10000#5 .stopped 0 (clearDeb 0) (clearDeb 0) (fullDeb 0) [true]))).map (fun t => t.regs.selw) =
      some 0b10000#5 := by decide
/-- A4. -/
theorem test_ctlAwaitReset_A4 :
    (nextOf (step (mk 0b10000#5 .stopped 0 (clearDeb 0) (clearDeb 0) (fullDeb 0) [false]))).map
      (fun t => (t.regs.selw, t.regs.debReset)) = some (0b00000#5, fullDeb 0) := by decide
/-- DB6. -/
theorem test_debHold_DB6 :
    (nextOf (exec (.debHold .stop) (mk 0 .stopped 0 (clearDeb 0) (deb #v[false, true, false, true, false] 1) (clearDeb 0)
      []))).map (fun t => t.regs.debStop) = some (deb #v[false, true, false, true, false] 1) := by decide
/-- DB3: a false sample at index 2 of a full window. -/
theorem test_debSample_DB3 :
    (nextOf (exec (.debSample .start false) (mk 0 .stopped 0 (fullDeb 2) (clearDeb 0) (clearDeb 0) []))).map
      (fun t => (t.regs.debStart, t.conf .start)) = some (deb #v[true, true, false, true, true] 3, false) := by decide
/-- DB9: the corner N = 1. -/
theorem test_debSample_DB9 : (Debouncer.sample (N := 1) ⟨#v[false], 0⟩ true) = ⟨#v[true], 0⟩ := by decide
/-- DB5: the index is kept. -/
theorem test_debClear_DB5 :
    (nextOf (exec (.debClear .reset) (mk 0 .stopped 0 (clearDeb 0) (clearDeb 0) (fullDeb 3) []))).map
      (fun t => (t.regs.debReset, t.conf .reset)) = some (clearDeb 3, false) := by decide
/-- DR5, digit 1. -/
theorem test_drRender_DR5 : (nextOf (exec (.drRender 5060 1) State.reset)).map (fun t => t.returned) =
    some (some (0x7D#8, 0x04#8)) := by decide
/-- DR8, digit 0 of a value above 9999. -/
theorem test_drRender_DR8 : (nextOf (exec (.drRender 65535 0) State.reset)).map (fun t => t.returned) =
    some (some (0x6D#8, 0x08#8)) := by decide

/-! ### The stops -/

/-- F1. -/
theorem test_fault_F1 : faultOf (step (released.setSelw 0b00101#5)) = some (.illegalSelector 0b00101#5) := by decide
/-- DB8. -/
theorem test_refusal_DB8 : refusalOf (driveWord (.debctl .stop 0b11#2 false) State.reset) = some (.debCtlReserved .stop) := by
  decide
/-- DR9. -/
theorem test_refusal_DR9 : segEncode 10 = .error (.segDigitOutOfRange 10) := by decide
/-- A POLL line where a CYCLE is selected (R65). -/
theorem test_refusal_stimulus : refusalOf (runStimulus [.release] State.reset) = some (.stimulusMismatch 1) := by decide

/-! ### Witnesses: a state and operands that meet the hypotheses of each statement, clause by clause -/

/-- A state whose RST is asserted for one step slot. -/
def inReset : State := { mk 0b00100#5 .running 7 almost almost almost [true] with rst := [true] }

theorem test_witness_HardwareResetValues :
    inReset.rstAsserted = true ∧ released.rstAsserted = false := by decide

theorem test_witness_StepPerformsSelectedOperation :
    (∀ w : SelWord, (released.setSelw w).rstAsserted = false ∧ (released.setSelw w).regs.selw = w) ∧
    (∀ k : DigitPos, 0b11111#5 ≠ 0b000#3 ++ BitVec.ofNat 2 k.val) := by decide

theorem test_witness_StepRunsDecodedInstruction :
    (released.setSelw 0b10000#5).rstAsserted = false ∧
    decode (.selw (released.setSelw 0b10000#5).regs.selw) = .ok .ctlAwaitReset ∧
    decode (.selw (released.setSelw 0b00111#5).regs.selw) = .error (.illegalSelector 0b00111#5) := by decide

theorem test_witness_PlacedWordIsRunNext : decodeTableWord 8 0b00100 = some .ctlUpdate := by decide

theorem test_witness_SelwDecodeTable :
    0b00011#5 &&& 0b11100#5 = 0b00000#5 ∧ 0b00100#5 &&& 0b11111#5 = 0b00100#5 ∧ 0b01000#5 &&& 0b11111#5 = 0b01000#5 ∧
    0b10000#5 &&& 0b11111#5 = 0b10000#5 ∧ 0b11111#5 &&& 0b11100#5 ≠ 0b00000#5 := by decide

theorem test_witness_DecodeEncodeRoundTrip :
    (Instr.drRender 16383 3).wellFormed = true ∧ (Instr.debSample .reset true).wellFormed = true := by decide

theorem test_witness_EncodeDecodeRoundTrip :
    decode (.debctl .start 0b00#2 true) = .ok (.debHold .start) ∧ decode (.drsel 0b11#2 16383#14) = .ok (.drRender 16383 3) := by
  decide

/-- A step outside CTL.UPDATE. -/
theorem test_witness_DebHoldKeepsState :
    released.rstAsserted = false ∧ released.regs.selw ≠ 0b00100#5 ∧ (nextOf (step released)).isSome = true := by
  decide

theorem test_witness_WindowHoldsLastSamples : 0 < 1 ∧ 0 < 5 ∧ (1 ≤ 1 ∧ 1 ≤ 5) ∧ (1 ≤ 5 ∧ 5 ≤ 5) := by decide

theorem test_witness_ConfirmedWindowStaysConfirmed :
    (fullDeb 2).conf = true ∧ ∀ x ∈ [true, true], x = true := by decide

theorem test_witness_DigitsReconstructValue : 9 < 10 ^ (1 : DigitPos).val ∧ 999 < 10 ^ (3 : DigitPos).val := by decide

theorem test_witness_DisplayDeterminesValue :
    9999 < Config.tickMod ∧ renderSequence 9999 = renderSequence 9999 := by decide

theorem test_witness_SegmentTable : segEncode 0 = .ok 0x3F#8 ∧ segEncode 9 = .ok 0x6F#8 := by decide

theorem test_witness_SegmentEncoderRefusesNonDigits : 10 ≤ 10 := by decide

theorem test_witness_RenderSequenceDrivesPorts :
    released.regs.selw = 0b00000#5 ∧ released.RstReleasedFor 4 := by decide

/-- The Reset transition's clause. -/
def updReset : State := mk 0b00100#5 .running 9 (clearDeb 4) almost almost [false, true, true]
/-- The Start transition's clause. -/
def updStart : State := mk 0b00100#5 .stopped 3 almost (clearDeb 4) (clearDeb 4) [true, false, false]
/-- The Stop transition's clause. -/
def updStop : State := mk 0b00100#5 .running 9999 almost almost (clearDeb 4) [true, true, false]
/-- No transition, Running at the greatest count. -/
def updWrap : State := mk 0b00100#5 .running 9999 (clearDeb 0) (clearDeb 0) (clearDeb 0) [false, false, false]
/-- No transition, Stopped with Stop confirmed. -/
def updIdle : State := mk 0b00100#5 .stopped 3 (clearDeb 4) almost (clearDeb 4) [false, true, false]

theorem test_witness_CtlUpdateEffect :
    (updReset.sampled .reset).conf = true ∧
    ((updStart.sampled .reset).conf = false ∧ updStart.regs.run = .stopped ∧ (updStart.sampled .start).conf = true) ∧
    ((updStop.sampled .reset).conf = false ∧ updStop.regs.run = .running ∧ (updStop.sampled .stop).conf = true) ∧
    ((updWrap.sampled .reset).conf = false ∧ updWrap.regs.run = .running ∧ (updWrap.sampled .stop).conf = false) ∧
    ((updIdle.sampled .reset).conf = false ∧ updIdle.regs.run = .stopped ∧ (updIdle.sampled .start).conf = false) := by
  decide

theorem test_witness_TicksCountOnlyInUpdate :
    (updWrap.rstAsserted = false ∧ (nextOf (step updWrap)).isSome = true ∧ updWrap.regs.selw = 0b00100#5 ∧
      (updWrap.sampled .reset).conf = false) ∧
    ((nextOf (step updReset)).isSome = true ∧ updReset.regs.selw = 0b00100#5 ∧ (updReset.sampled .reset).conf = true) ∧
    ((nextOf (step released)).isSome = true ∧ released.regs.selw ≠ 0b00100#5) := by decide

theorem test_witness_OnlyNamedTransitions :
    (updStart.rstAsserted = false ∧ updStart.regs.run = .stopped ∧
      (nextOf (step updStart)).map (fun t => t.regs.run) = some .running) ∧
    (updStop.regs.run = .running ∧ (nextOf (step updStop)).map (fun t => t.regs.run) = some .stopped) ∧
    (updWrap.regs.selw = 0b00100#5 ∧ updWrap.regs.run = .running ∧ (updWrap.sampled .reset).conf = false ∧
      (updWrap.sampled .stop).conf = false ∧ (nextOf (step updWrap)).isSome = true) ∧
    (updIdle.regs.selw = 0b00100#5 ∧ updIdle.regs.run = .stopped ∧ (updIdle.sampled .reset).conf = false ∧
      (updIdle.sampled .start).conf = false ∧ (nextOf (step updIdle)).isSome = true) := by decide

/-- The release-wait of Start, pressed then released. -/
def waitStart (answers : List Bool) : State := mk 0b01000#5 .running 0 (clearDeb 0) (clearDeb 0) (clearDeb 0) answers
/-- The release-wait of Reset, with a full window. -/
def waitReset (answers : List Bool) : State := mk 0b10000#5 .stopped 0 (clearDeb 0) (clearDeb 0) (fullDeb 0) answers

/-- The same waits with the ports as a refresh cycle left them, so that the invariant holds. -/
def portsHeld (s : State) : State := { s with regs := { s.regs with segOut := 0x3F, selOut := 0x01 } }

theorem test_witness_CtlAwaitEffect_invariant :
    ((portsHeld (waitStart [])).regs.Inv ∧ (portsHeld (waitStart [])).regs.await = 0b01#2) ∧
    (portsHeld (waitReset [])).regs.Inv ∧ (portsHeld (waitReset [])).regs.await = 0b10#2 := by
  refine ⟨⟨?_, by decide⟩, ?_, by decide⟩ <;> constructor <;> decide

theorem test_witness_CtlAwaitStartEffect :
    (waitStart [false]).peek 0 = false ∧ (waitStart [false]).regs.phase = 0#3 ∧ (waitStart [true]).peek 0 = true ∧
    (waitStart [true]).regs.selw = 0b01000#5 := by decide

theorem test_witness_CtlAwaitResetEffect :
    (waitReset [false]).peek 0 = false ∧ (waitReset [false]).regs.phase = 0#3 ∧ (waitReset [true]).peek 0 = true ∧
    (waitReset [true]).regs.selw = 0b10000#5 := by decide

/-- One state per row of the selector table, each with a next state: for SelectorSuccessors and EventsOfEachStep. -/
theorem test_witness_SelectorRows :
    (∀ k : DigitPos, (released.setSelw (0b000#3 ++ BitVec.ofNat 2 k.val)).regs.selw = 0b000#3 ++ BitVec.ofNat 2 k.val ∧
      (nextOf (step (released.setSelw (0b000#3 ++ BitVec.ofNat 2 k.val)))).isSome = true) ∧
    (updStart.regs.selw = 0b00100#5 ∧ (nextOf (step updStart)).isSome = true) ∧
    ((waitStart [true]).regs.selw = 0b01000#5 ∧ (nextOf (step (waitStart [true]))).isSome = true) ∧
    ((waitReset [true]).regs.selw = 0b10000#5 ∧ (nextOf (step (waitReset [true]))).isSome = true) ∧
    updStart.rstAsserted = false ∧ (waitStart [true]).rstAsserted = false ∧ (waitReset [true]).rstAsserted = false := by
  decide

theorem test_witness_EnvironmentFieldsFrame : (∀ v k, Instr.ctlUpdate ≠ .drRender v k) ∧
    (∃ b, Instr.debHold .start = .debHold b) ∧ (∃ b raw, Instr.debSample .stop true = .debSample b raw) ∧
    (∃ b, Instr.debClear .reset = .debClear b) ∧ ∃ v k, Instr.drRender 42 3 = .drRender v k := by
  refine ⟨fun v k h => ?_, ⟨_, rfl⟩, ⟨_, _, rfl⟩, ⟨_, rfl⟩, ⟨_, _, rfl⟩⟩
  cases h

theorem test_witness_UnusedOutputBitsZero :
    (nextOf (exec .ctlUpdate updStart)).isSome = true ∧ ∀ k, Instr.ctlUpdate ≠ .ctlRender k := by
  exact ⟨by decide, fun k h => by cases h⟩

theorem test_witness_ReleaseWaitSuspends :
    ((waitStart [true, false]).regs.selw = 0b01000#5 ∧ (waitStart [true, false]).RstReleasedFor 2 ∧
      (∀ j, j < 1 → (waitStart [true, false]).peek j = true) ∧ (waitStart [true, false]).peek 1 = false) ∧
    ((waitReset [true, false]).regs.selw = 0b10000#5 ∧ (waitReset [true, false]).RstReleasedFor 2 ∧
      (∀ j, j < 1 → (waitReset [true, false]).peek j = true) ∧ (waitReset [true, false]).peek 1 = false) := by decide

theorem test_witness_StartWaitDelaysCounting :
    (waitStart [true, false, false, false, false]).regs.selw = 0b01000#5 ∧
    (waitStart [true, false, false, false, false]).regs.run = .running ∧
    (waitStart [true, false, false, false, false]).RstReleasedFor 7 ∧
    (∀ j, j < 1 → (waitStart [true, false, false, false, false]).peek j = true) ∧
    (waitStart [true, false, false, false, false]).peek 1 = false ∧
    ((waitStart [true, false, false, false, false]).regs.debReset.sample
      ((waitStart [true, false, false, false, false]).peek 4)).conf = false := by decide

theorem test_witness_RefreshCycle :
    (updStart.setSelw 0b00000#5).regs.selw = 0b00000#5 ∧
    (updStart.setSelw 0b00000#5).RstReleasedFor 5 := by decide

/-- A Stopped state with clear windows and an idle environment. -/
def idleState : State := mk 0b00000#5 .stopped 42 (clearDeb 4) (clearDeb 4) (clearDeb 4) [false, false, false]

theorem test_witness_IdleCycleMovesOnlyIndices :
    idleState.regs.selw = 0b00000#5 ∧ idleState.regs.run = .stopped ∧ idleState.RstReleasedFor 5 ∧
    (idleState.regs.debStart.win = Vector.replicate Config.nSamples false ∧
      idleState.regs.debStop.win = Vector.replicate Config.nSamples false ∧
      idleState.regs.debReset.win = Vector.replicate Config.nSamples false) ∧
    idleState.peek 0 = false ∧ idleState.peek 1 = false ∧ idleState.peek 2 = false := by decide

/-- A Stopped state whose environment presses Start in five refresh cycles. -/
def pressState : State := mk 0b00000#5 .stopped 0 (clearDeb 2) (clearDeb 2) (clearDeb 2)
  [true, false, false, true, false, false, true, false, false, true, false, false, true, false, false]

theorem test_witness_PressForNCyclesStarts :
    pressState.regs.selw = 0b00000#5 ∧ pressState.regs.run = .stopped ∧ pressState.RstReleasedFor (5 * Config.nSamples) ∧
    pressState.regs.debStart.win = Vector.replicate Config.nSamples false ∧
    (∀ n, n < Config.nSamples → pressState.peek (3 * n) = true ∧ pressState.peek (3 * n + 2) = false) := by decide

/-- A Running state inside a refresh cycle: digit 1 of 1234 is shown, and CTL.RENDER 2 comes next. -/
def midCycle : State :=
  { mk 0b00010#5 .running 1234 (deb #v[true, false, true, true, false] 3) (clearDeb 3) (clearDeb 3) [] with
    regs := { (mk 0b00010#5 .running 1234 (deb #v[true, false, true, true, false] 3) (clearDeb 3) (clearDeb 3) []).regs with
      segOut := 0x4F, selOut := 0x04 } }

/-- For InvariantKeptByEveryStep and EveryFiniteRunGoesOn. -/
theorem test_witness_Invariant : midCycle.regs.Inv ∧ (nextOf (step midCycle)).isSome = true := by
  refine ⟨?_, by decide⟩
  constructor <;> decide

theorem test_witness_LegalSelectorStepsOn : (waitReset [true]).regs.SelectorLegal ∧ updStart.regs.SelectorLegal := by decide

theorem test_witness_IllegalSelectorFaults :
    (released.setSelw 0b01100#5).rstAsserted = false ∧ ¬ (released.setSelw 0b01100#5).regs.SelectorLegal := by decide

/-- Two states whose Start windows hold the same history at different indices. -/
theorem test_witness_IndexIsHidden :
    (mk 0 .stopped 0 (deb #v[true, false, false, false, false] 1) (clearDeb 0) (clearDeb 0) []).SameUpToIndex
      (mk 0 .stopped 0 (deb #v[false, true, false, false, false] 2) (clearDeb 3) (clearDeb 0) []) := by
  refine ⟨rfl, rfl, rfl, rfl, rfl, rfl, ?_, rfl, rfl, rfl, rfl, rfl, rfl⟩
  intro b
  cases b <;> (unfold Debouncer.SameHistory; decide)

theorem test_witness_ResetRetriggersAfterOneSample :
    ((waitReset [false, false, false, true]).regs.selw = 0b10000#5 ∧
      (waitReset [false, false, false, true]).regs.debReset.conf = true ∧
      (waitReset [false, false, false, true]).RstReleasedFor 6 ∧ (waitReset [false, false, false, true]).peek 0 = false ∧
      (waitReset [false, false, false, true]).peek 3 = true) ∧
    (waitReset [false, false, false, false]).peek 0 = false ∧ (waitReset [false, false, false, false]).peek 3 = false := by
  decide

/-- U13 then U14. -/
def heldBoth : State := mk 0b00100#5 .running 3 (fullDeb 4) almost (clearDeb 4) [true, true, false, true, false, false]

theorem test_witness_StartHeldRestartsAfterStop :
    heldBoth.regs.selw = 0b00100#5 ∧ heldBoth.regs.run = .running ∧ heldBoth.RstReleasedFor 6 ∧
    (heldBoth.sampled .reset).conf = false ∧ (heldBoth.sampled .stop).conf = true ∧ (heldBoth.sampled .start).conf = true ∧
    ((heldBoth.sampled .reset).sample (heldBoth.peek 5)).conf = false ∧ heldBoth.peek 3 = true := by decide

/-- The last cycle of P5's first line, and what follows it. -/
def resetAndStart : State :=
  mk 0b00100#5 .stopped 0 almost (clearDeb 4) almost [true, false, true, false, true, false, false]

theorem test_witness_ResetBeatsStartThenStartFires :
    resetAndStart.regs.selw = 0b00100#5 ∧ resetAndStart.regs.run = .stopped ∧ resetAndStart.RstReleasedFor 7 ∧
    (resetAndStart.sampled .reset).conf = true ∧ (resetAndStart.sampled .start).conf = true ∧
    resetAndStart.peek 3 = false ∧ resetAndStart.peek 4 = true ∧ resetAndStart.peek 6 = false := by decide

theorem test_witness_StimulusMismatchRefused :
    lineMatches (.poll true) State.reset.regs = false ∧ lineMatches (.cycle true true true) (waitStart []).regs = false ∧
    (refusalOf (runLine 3 (.poll true) State.reset)) = some (.stimulusMismatch 3) ∧
    (nextOf (runLine 3 (.cycle true true true) State.reset)).isSome = true := by decide

/-- RST released at one slot and then held. -/
def resetLater : State := { mk 0b00100#5 .running 7 almost almost almost [true] with rst := [false, true, true] }

theorem test_witness_RstAssertedAtAnySlot :
    (resetLater.regs.SelectorLegal ∧ resetLater.rstAt 1 = true) ∧
    ∀ j, j ≤ 1 → { resetLater with rst := [true, true] }.rstAt j = true := by decide

/-- The second line of a program is refused as line 2 (R65). -/
theorem test_refusal_second_line : refusalOf (runStimulus [.idle 1, .held] State.reset) = some (.stimulusMismatch 2) := by
  decide

end Sys2Proof.Tests
end

section
/-! SUPPORT. Which operation the step performs under each selector of R54, with the state it ends in, and what each of
these operations writes to the two fields of SELW (10_state.md R20). -/

namespace Sys2Proof.Machine

/-! ### The operation a released step performs -/

/-- With RST released, a step that answers a next state is `exec` of the operation SELW decodes to (R87). -/
theorem step_next_decodes {s t : State} (hr : s.rstAsserted = false) (h : step s = .next t) :
    ∃ i, decode (.selw s.regs.selw) = .ok i ∧ exec i s.nextRst = .next t := by
  cases hd : decode (.selw s.regs.selw) with
  | ok i => exact ⟨i, rfl, (step_of_decode hr hd).symm.trans h⟩
  | error e =>
    obtain rfl := decode_selw_error hd
    simp [step, stepSlot, driveWord, rejectOutcome, hr, hd] at h

/-- The CTL.RENDER selector as its row of R54 writes it, cut into the fields of SELW. -/
theorem renderSelector_fields (k : DigitPos) :
    (0b000#3 ++ BitVec.ofNat 2 k.val : SelWord) = awaitNone ++ BitVec.ofNat 3 k.val := by
  revert k
  decide

theorem step_next_of_renderSelector {s t : State} (hr : s.rstAsserted = false) (h : step s = .next t) {k : DigitPos}
    (hw : s.regs.selw = 0b000#3 ++ BitVec.ofNat 2 k.val) :
    s.regs.await = awaitNone ∧
      t = (s.nextRst.writePorts (renderPair s.regs.ticks.val k)).setPhase (BitVec.ofNat 3 (k.val + 1)) := by
  obtain ⟨ha, hp⟩ := (s.regs.selw_eq_iff _ _).1 (hw.trans (renderSelector_fields k))
  rw [step_render k hr ha hp] at h
  exact ⟨ha, (Host.Outcome.next.inj h).symm⟩

theorem step_next_of_updateSelector {s t : State} (hr : s.rstAsserted = false) (h : step s = .next t)
    (hw : s.regs.selw = 0b00100#5) :
    s.regs.await = awaitNone ∧ t = s.nextRst.tick.sampleButtons.transition.setPhase 0 := by
  obtain ⟨ha, hp⟩ := (s.regs.selw_eq_iff awaitNone 4#3).1 hw
  rw [step_update hr ha hp] at h
  exact ⟨ha, (Host.Outcome.next.inj h).symm⟩

theorem step_next_of_awaitStartSelector {s t : State} (hr : s.rstAsserted = false) (h : step s = .next t)
    (hw : s.regs.selw = 0b01000#5) :
    s.regs.await = awaitStart ∧ s.regs.phase = 0#3 ∧ t = s.nextRst.pollRelease .start := by
  obtain ⟨ha, hp⟩ := (s.regs.selw_eq_iff awaitStart 0#3).1 hw
  rw [step_awaitStart hr ha hp] at h
  exact ⟨ha, hp, (Host.Outcome.next.inj h).symm⟩

theorem step_next_of_awaitResetSelector {s t : State} (hr : s.rstAsserted = false) (h : step s = .next t)
    (hw : s.regs.selw = 0b10000#5) :
    s.regs.await = awaitReset ∧ s.regs.phase = 0#3 ∧ t = s.nextRst.pollRelease .reset := by
  obtain ⟨ha, hp⟩ := (s.regs.selw_eq_iff awaitReset 0#3).1 hw
  rw [step_awaitReset hr ha hp] at h
  exact ⟨ha, hp, (Host.Outcome.next.inj h).symm⟩

/-! ### What the operations write to AWAIT and PHASE -/

/-- PHASE holds `k + 1` without wrapping: its 3 bits reach past DIGITS. -/
theorem nextPhase_toNat (k : DigitPos) : (BitVec.ofNat 3 (k.val + 1)).toNat = k.val + 1 := by
  have hk : k.val < 4 := k.isLt
  rw [BitVec.toNat_ofNat, Nat.mod_eq_of_lt (by omega)]

/-- A Reset or a Start transition begins a release-wait; a Stop transition and no transition leave AWAIT (R95 to R97). -/
theorem State.transition_await (s : State) : s.transition.regs.await =
    if s.conf .reset = true then awaitReset
    else if s.regs.run = .stopped ∧ s.conf .start = true then awaitStart else s.regs.await := by
  rcases s.transition_cases with ⟨hreset, h⟩ | ⟨hreset, hrun, hstart, h⟩ | ⟨hreset, hrun, -, h⟩ | ⟨hreset, hstart, -, h⟩
  · simp [h, hreset, State.resetTransition]
  · simp [h, hreset, hrun, hstart, State.startTransition]
  · simp [h, hreset, hrun, State.stopTransition]
  · have noStart : ¬ (s.regs.run = .stopped ∧ s.conf .start = true) := fun ⟨hrun, hconf⟩ => by
      simp [hstart hrun] at hconf
    simp [h, hreset, noStart]

/-- AWAIT after CTL.UPDATE, in terms of the windows its samples leave (R89). -/
theorem update_await (s : State) : s.tick.sampleButtons.transition.regs.await =
    if (s.sampled .reset).conf = true then awaitReset
    else if s.regs.run = .stopped ∧ (s.sampled .start).conf = true then awaitStart else s.regs.await := by
  simp [State.transition_await, update_conf]

@[simp] theorem State.pollRelease_phase (s : State) (b) : (s.pollRelease b).regs.phase = s.regs.phase := by
  cases h : s.peek 0 <;> simp [State.pollRelease, h]

/-- A poll ends the wait exactly when its read is released (R100). -/
theorem State.pollRelease_await (s : State) (b) : (s.pollRelease b).regs.await =
    if s.peek 0 = false then awaitNone else s.regs.await := by
  cases h : s.peek 0 <;> simp [State.pollRelease, h]

@[simp] theorem State.nextRst_sampled (s : State) (b) : s.nextRst.sampled b = s.sampled b := rfl

/-- Settles O34: each selector of R54 fixes the step's operation, and the lemmas above say what that operation writes
to AWAIT and PHASE. -/
theorem selectorSuccessors : Obligations.SelectorSuccessors := by
  intro s t hr h
  refine ⟨rfl, step_next_decodes hr h, fun k hw => ?render, fun hw => ?update, fun hw => ?awaitStart,
    fun hw => ?awaitReset⟩
  case render =>
    obtain ⟨ha, rfl⟩ := step_next_of_renderSelector hr h hw
    exact ⟨ha, nextPhase_toNat k⟩
  case update =>
    obtain ⟨ha, rfl⟩ := step_next_of_updateSelector hr h hw
    refine ⟨rfl, ?_⟩
    simp [update_await, ha]
  case awaitStart =>
    obtain ⟨ha, hp, rfl⟩ := step_next_of_awaitStartSelector hr h hw
    simp [State.pollRelease_await, ha, hp]
  case awaitReset =>
    obtain ⟨ha, hp, rfl⟩ := step_next_of_awaitResetSelector hr h hw
    simp [State.pollRelease_await, ha, hp]

end Sys2Proof.Machine
end

section
/-! SUPPORT. The latches behind the ports (20_memory.md R36, R38): which bits of the pair CTL.RENDER writes are always
0, and that every part of every other operation leaves both latches. -/

namespace Sys2Proof.Machine

/-! ### The bits of a port write -/

/-- No pattern of SEGTAB sets bit 7 (R38, R79). -/
theorem segTab_bit7 (d : Fin 10) : (segTab d).getLsbD 7 = false := by
  revert d
  decide

/-- No digit's mask sets a bit above bit 3 (R38, R81). -/
theorem selMask_highBits (k : DigitPos) : (selMask k).extractLsb' 4 4 = 0#4 := by
  revert k
  decide

/-! ### The parts of an operation that leave the ports -/

theorem State.tick_ports (s : State) : s.tick.regs.ports = s.regs.ports := by simp [Regs.ports]

theorem State.transition_ports (s : State) : s.transition.regs.ports = s.regs.ports := by simp [Regs.ports]

theorem State.pollRelease_ports (s : State) (b) : (s.pollRelease b).regs.ports = s.regs.ports := by
  cases h : s.peek 0 <;> simp [State.pollRelease, Regs.ports, h]

/-- The three parts of CTL.UPDATE and its write to PHASE leave the ports (R89). -/
theorem update_ports (s : State) :
    (s.tick.sampleButtons.transition.setPhase 0).regs.ports = s.regs.ports := calc
  _ = s.tick.sampleButtons.transition.regs.ports := rfl
  _ = s.tick.sampleButtons.regs.ports := State.transition_ports _
  _ = s.tick.regs.ports := rfl
  _ = s.regs.ports := State.tick_ports s

/-- Only CTL.RENDER writes a port (R36). -/
theorem exec_ports_of_ne_render {i : Instr} {s t : State} (h : exec i s = .next t) (hi : ∀ k, i ≠ .ctlRender k) :
    t.regs.ports = s.regs.ports := by
  cases i with
  | ctlRender k => exact absurd rfl (hi k)
  | ctlUpdate => obtain rfl := Host.Outcome.next.inj h; exact update_ports s
  | ctlAwaitStart => obtain rfl := Host.Outcome.next.inj h; exact s.pollRelease_ports .start
  | ctlAwaitReset => obtain rfl := Host.Outcome.next.inj h; exact s.pollRelease_ports .reset
  | debHold b => obtain rfl := Host.Outcome.next.inj h; exact Regs.setDeb_ports _ b _
  | debSample b raw => obtain rfl := Host.Outcome.next.inj h; exact Regs.setDeb_ports _ b _
  | debClear b => obtain rfl := Host.Outcome.next.inj h; exact Regs.setDeb_ports _ b _
  | drRender v k => obtain rfl := Host.Outcome.next.inj h; rfl

/-- Settles O27: CTL.RENDER writes a pattern of SEGTAB and a digit's mask, whose unused bits are 0, and no other
operation writes a port. -/
theorem unusedOutputBitsZero : Obligations.UnusedOutputBitsZero :=
  ⟨fun k s => ⟨_, rfl, segTab_bit7 (digit s.regs.ticks.val k), selMask_highBits k⟩,
    fun _ _ _ => exec_ports_of_ne_render⟩

end Sys2Proof.Machine
end

section
/-! SUPPORT. The decoder row by row: what each row of R54, R55 and R56 decodes to, and what is left over as illegal or
reserved (30_encoding.md). -/

namespace Sys2Proof.Machine

/-! ### The rows of R54 -/

/-- The mask of the three rows that fix a whole selector keeps every bit. -/
theorem selw_and_fullMask (w : SelWord) : w &&& 0b11111#5 = w := BitVec.and_allOnes

theorem decode_renderRow {w : SelWord} (h : w &&& 0b11100#5 = 0b00000#5) :
    decode (.selw w) = .ok (.ctlRender (w.extractLsb' 0 2).toFin) := if_pos h

theorem decode_updateRow {w : SelWord} (h : w &&& 0b11111#5 = 0b00100#5) : decode (.selw w) = .ok .ctlUpdate := by
  obtain rfl := (selw_and_fullMask w).symm.trans h
  rfl

theorem decode_awaitStartRow {w : SelWord} (h : w &&& 0b11111#5 = 0b01000#5) :
    decode (.selw w) = .ok .ctlAwaitStart := by
  obtain rfl := (selw_and_fullMask w).symm.trans h
  rfl

theorem decode_awaitResetRow {w : SelWord} (h : w &&& 0b11111#5 = 0b10000#5) :
    decode (.selw w) = .ok .ctlAwaitReset := by
  obtain rfl := (selw_and_fullMask w).symm.trans h
  rfl

/-- A selector outside every row is rejected under its own name (R58). -/
theorem decode_noRow {w : SelWord} (hrender : w &&& 0b11100#5 ≠ 0b00000#5) (hupdate : w ≠ 0b00100#5)
    (hstart : w ≠ 0b01000#5) (hreset : w ≠ 0b10000#5) : decode (.selw w) = .error (.illegalSelector w) := by
  simp only [decode, decodeSelw, selw_and_fullMask, if_neg hrender, if_neg hupdate, if_neg hstart, if_neg hreset]

/-- Settles O5, row by row of R54. -/
theorem selwDecodeTable : Obligations.SelwDecodeTable := fun _ =>
  ⟨decode_renderRow, decode_updateRow, decode_awaitStartRow, decode_awaitResetRow, decode_noRow⟩

/-! ### The rows of R55 and R56 -/

theorem decode_hold (b : ButtonId) (raw : Bool) : decode (.debctl b 0b00#2 raw) = .ok (.debHold b) := rfl

theorem decode_sample (b : ButtonId) (raw : Bool) : decode (.debctl b 0b01#2 raw) = .ok (.debSample b raw) := rfl

theorem decode_clear (b : ButtonId) (raw : Bool) : decode (.debctl b 0b10#2 raw) = .ok (.debClear b) := rfl

/-- CLR and SMP together are no operation of the Debouncer (R59). -/
theorem decode_debctlReserved (b : ButtonId) (raw : Bool) :
    decode (.debctl b 0b11#2 raw) = .error (.debCtlReserved b) := rfl

/-- DRSEL has no reserved value: every `K` selects a digit (R56). -/
theorem decode_drsel (k : BitVec 2) (v : BitVec Config.tickWidth) :
    decode (.drsel k v) = .ok (.drRender v.toNat k.toFin) := rfl

/-- Settles O6, row by row of R55 and R56. -/
theorem componentDecodeTables : Obligations.ComponentDecodeTables :=
  ⟨fun b raw => ⟨decode_hold b raw, decode_sample b raw, decode_clear b raw, decode_debctlReserved b raw⟩,
    decode_drsel⟩

end Sys2Proof.Machine
end

section
/-! SUPPORT. The three operations of one Debouncer on the machine (40_debouncer.md R68 to R70): what each leaves of the
register file, and that a step which is not CTL.UPDATE leaves every Debouncer. -/

namespace Sys2Proof.Machine

/-! ### DEB.HOLD -/

@[simp] theorem State.pollRelease_deb (s : State) (b c) : (s.pollRelease b).regs.deb c = s.regs.deb c := by
  cases h : s.peek 0 <;> simp [State.pollRelease, h]

/-- Outside CTL.UPDATE every Debouncer is held (R68). -/
theorem step_next_deb_of_ne_update {s t : State} (hr : s.rstAsserted = false) (hw : s.regs.selw ≠ 0b00100#5)
    (h : step s = .next t) (b : ButtonId) : t.regs.deb b = s.regs.deb b := by
  rcases step_next_cases h with
    ⟨hrst, -⟩ | ⟨-, k, -, -, rfl⟩ | ⟨-, ha, hp, -⟩ | ⟨-, -, -, rfl⟩ | ⟨-, -, -, rfl⟩
  · exact absurd (hr.symm.trans hrst) Bool.false_ne_true
  · simp
  · exact absurd ((s.regs.selw_eq_iff awaitNone 4#3).2 ⟨ha, hp⟩) hw
  · simp
  · simp

theorem exec_debHold (b : ButtonId) (s : State) : exec (.debHold b) s = .next s :=
  congrArg Host.Outcome.next (s.holdDeb_eq b)

/-- Settles O11: DEB.HOLD ends in the very state it began in, and a step outside CTL.UPDATE holds every Debouncer. -/
theorem debHoldKeepsState : Obligations.DebHoldKeepsState :=
  ⟨decode_hold, fun b s => ⟨s, exec_debHold b s, rfl, fun _ => rfl⟩, fun _ _ => step_next_deb_of_ne_update⟩

/-! ### DEB.SAMPLE and DEB.CLEAR -/

/-- Replacing the Debouncer of `b` leaves every other register (R66). -/
theorem Regs.sameButDeb_setDeb (r : Regs) (b : ButtonId) (d : Debouncer Config.nSamples) :
    r.SameButDeb (r.setDeb b d) b where
  ticks := r.setDeb_ticks b d
  run := r.setDeb_run b d
  await := r.setDeb_await b d
  phase := r.setDeb_phase b d
  segOut := r.setDeb_segOut b d
  selOut := r.setDeb_selOut b d
  deb c hc := (r.deb_setDeb b c d).trans (if_neg hc)

theorem State.sampleDeb_deb_self (s : State) (b : ButtonId) (raw : Bool) :
    (s.sampleDeb b raw).regs.deb b = (s.regs.deb b).sample raw := by simp

theorem State.clearDeb_deb_self (s : State) (b : ButtonId) :
    (s.clearDeb b).regs.deb b = (s.regs.deb b).clear := by simp

/-- Settles O12: the laws of one Debouncer hold of the instance the operation writes, and the frame is that of
`Regs.setDeb`. -/
theorem debSampleWritesSlot : Obligations.DebSampleWritesSlot := by
  refine ⟨decode_sample, fun N d raw => ⟨d.sample_idx raw, d.sample_slot raw⟩, fun b raw s => ?_⟩
  refine ⟨s.sampleDeb b raw, rfl, ?slots, ?index, s.regs.sameButDeb_setDeb b _, Debouncer.conf_iff_slots _⟩
  case slots =>
    rw [State.sampleDeb_deb_self]
    exact Debouncer.sample_slot _ raw
  case index =>
    rw [State.sampleDeb_deb_self]
    exact Debouncer.sample_idx _ raw

/-- Settles O13: the laws of one Debouncer hold of the instance the operation writes, and the frame is that of
`Regs.setDeb`. A window without slots has no index, so no Debouncer confirms after a clear. -/
theorem debClearZeroesWindow : Obligations.DebClearZeroesWindow := by
  refine ⟨decode_clear, fun N d => ⟨d.clear_idx, d.conf_clear d.idx.pos, d.clear_slot⟩, fun b s => ?_⟩
  refine ⟨s.clearDeb b, rfl, ?slots, ?index, s.regs.sameButDeb_setDeb b _, ?conf⟩
  case slots =>
    rw [State.clearDeb_deb_self]
    exact Debouncer.clear_slot _
  case index => rw [State.clearDeb_deb_self, Debouncer.clear_idx]
  case conf =>
    rw [State.conf, State.clearDeb_deb_self]
    exact Debouncer.conf_clear (by decide) _

end Sys2Proof.Machine
end

section
/-! SUPPORT. The DigitRenderer (41_digit_renderer.md): its three functions by the tables of their rules, and the state
after the first renders of a refresh cycle, which drive the render sequence to the ports (R83). -/

namespace Sys2Proof.Machine

/-! ### The render sequence -/

/-- The state after a released step that performs CTL.RENDER `k` (R87, R88). -/
def State.afterRender (s : State) (k : DigitPos) : State :=
  (s.nextRst.writePorts (renderPair s.regs.ticks.val k)).setPhase (BitVec.ofNat 3 (k.val + 1))

/-- The state after the steps CTL.RENDER 0 to `n - 1` of a refresh cycle, for `n` up to DIGITS. -/
def State.afterRenders (s : State) : Nat → State
  | 0 => s
  | n + 1 => (s.afterRenders n).afterRender (Fin.ofNat Config.digits n)

theorem step_eq_afterRender {s : State} {k : DigitPos} (hr : s.rstAsserted = false) (ha : s.regs.await = awaitNone)
    (hp : s.regs.phase = BitVec.ofNat 3 k.val) : step s = .next (s.afterRender k) := step_render k hr ha hp

@[simp] theorem State.afterRenders_ticks (s : State) (n) : (s.afterRenders n).regs.ticks = s.regs.ticks := by
  induction n with
  | zero => rfl
  | succ n ih => exact ih

@[simp] theorem State.afterRenders_await (s : State) (n) : (s.afterRenders n).regs.await = s.regs.await := by
  induction n with
  | zero => rfl
  | succ n ih => exact ih

/-- Every render spends one step slot. -/
@[simp] theorem State.afterRenders_rstAt (s : State) (n j) : (s.afterRenders n).rstAt j = s.rstAt (n + j) := by
  induction n generalizing j with
  | zero => simp [State.afterRenders]
  | succ n ih => simp [State.afterRenders, State.afterRender, ih, Nat.add_assoc, Nat.add_comm 1 j]

/-- PHASE counts the renders of the cycle (R88). -/
theorem State.afterRenders_phase {s : State} (hp : s.regs.phase = 0#3) {n : Nat} (hn : n ≤ Config.digits) :
    (s.afterRenders n).regs.phase = BitVec.ofNat 3 n := by
  cases n with
  | zero => exact hp
  | succ n => simp [State.afterRenders, State.afterRender, Nat.mod_eq_of_lt hn]

/-- Every render writes the pair of its digit to the ports, the newest write first (R36, R88). -/
theorem State.afterRenders_events (s : State) (n : Nat) : (s.afterRenders n).events =
    (((List.range n).map fun k => renderPair s.regs.ticks.val (Fin.ofNat Config.digits k)).map
      fun p => Event.portWrite p.1 p.2).reverse ++ s.events := by
  induction n with
  | zero => rfl
  | succ n ih => simp [State.afterRenders, State.afterRender, ih, List.range_succ]

theorem stepN_one (s : State) : stepN 1 s = step s := by
  cases h : step s <;> simp [stepN, h]

/-- A run goes on from where its first part ends. -/
theorem stepN_add {m : Nat} {s u : State} (h : stepN m s = .next u) (n : Nat) : stepN (m + n) s = stepN n u := by
  induction m generalizing s with
  | zero => obtain rfl := Host.Outcome.next.inj h; rw [Nat.zero_add]
  | succ m ih =>
    rw [Nat.succ_add]
    cases hs : step s <;> simp only [stepN, hs, reduceCtorEq] at h ⊢
    exact ih h

/-- From SELW = 00000 a refresh cycle begins with CTL.RENDER 0, 1, 2, 3 (R86). -/
theorem stepN_eq_afterRenders {s : State} (ha : s.regs.await = awaitNone) (hp : s.regs.phase = 0#3) {n : Nat}
    (hn : n ≤ Config.digits) (hr : s.RstReleasedFor n) : stepN n s = .next (s.afterRenders n) := by
  induction n with
  | zero => rfl
  | succ n ih =>
    have hrun : stepN n s = .next (s.afterRenders n) := ih (by omega) fun j hj => hr j (by omega)
    have hrst : (s.afterRenders n).rstAsserted = false := by simp [State.rstAsserted, hr n]
    have hphase : (s.afterRenders n).regs.phase = BitVec.ofNat 3 (Fin.ofNat Config.digits n).val := by
      rw [State.afterRenders_phase hp (by omega), Fin.val_ofNat, Nat.mod_eq_of_lt hn]
    rw [stepN_add hrun, stepN_one]
    exact step_eq_afterRender hrst ((s.afterRenders_await n).trans ha) hphase

/-- Settles O25: four renders run PHASE from 0 to 4, and the pairs they write are those of the render sequence. -/
theorem renderSequenceDrivesPorts : Obligations.RenderSequenceDrivesPorts := by
  refine ⟨fun _ => rfl, by decide, fun s hw hr => ?_⟩
  obtain ⟨ha, hp⟩ := (s.regs.selw_eq_iff awaitNone 0#3).1 hw
  have hselw : (s.afterRenders 4).regs.selw = awaitNone ++ 4#3 :=
    (Regs.selw_eq_iff _ _ _).2 ⟨(s.afterRenders_await 4).trans ha, State.afterRenders_phase hp le_rfl⟩
  exact ⟨s.afterRenders 4, stepN_eq_afterRenders ha hp le_rfl hr, s.afterRenders_events 4, hselw⟩

/-! ### The segment encoder -/

/-- The encoder answers exactly on digits, with the pattern of SEGTAB (R79, R80). -/
theorem segEncode_eq_ok_iff {d : Nat} {p : Byte} : segEncode d = .ok p ↔ ∃ h : d < 10, segTab ⟨d, h⟩ = p := by
  by_cases h : d < 10 <;> simp [segEncode, h]

/-- The pairs (digit, pattern) of SEGTAB, in the order of R79. -/
theorem mem_segTab_pairs_iff {d : Nat} {p : Byte} :
    (d, p) ∈ (List.finRange 10).map (fun i => (i.val, segTab i)) ↔ ∃ h : d < 10, segTab ⟨d, h⟩ = p := by
  simp [Fin.exists_iff]

/-- Settles O18: the list of R79 is SEGTAB digit by digit, and the encoder answers from SEGTAB only. -/
theorem segmentTable : Obligations.SegmentTable := by
  refine fun d p => ⟨segEncode_eq_ok_iff.trans mem_segTab_pairs_iff.symm, fun h => ?_⟩
  obtain ⟨hd, rfl⟩ := segEncode_eq_ok_iff.1 h
  exact segTab_bit7 ⟨d, hd⟩

/-! ### The digit multiplexer -/

theorem selMask_eq_shift (k : DigitPos) : selMask k = 1#8 <<< (3 - k.val) := by
  revert k
  decide

/-- The one set bit of digit `k`'s mask is bit `3 - k` (R81). -/
theorem selMask_oneHot (k : DigitPos) (i : Fin 8) :
    (selMask k).getLsbD i.val = decide (i = (k.rev.castLE (by decide) : Fin 8)) := by
  revert k i
  decide

/-- Settles O19: the mask of a pair is MASK[k], whatever the value rendered. -/
theorem digitMultiplexer : Obligations.DigitMultiplexer := fun _ =>
  ⟨rfl, fun k => ⟨selMask_eq_shift k, selMask_highBits k, _, selMask_oneHot k⟩⟩

/-! ### The BCD decoder -/

theorem digit_val (v : Nat) (k : DigitPos) : (digit v k).val = v / 10 ^ k.val % 10 := rfl

theorem digit_le (v : Nat) (k : DigitPos) : (digit v k).val ≤ 9 := Nat.le_of_lt_succ (digit v k).isLt

/-- Settles O20: the four written-out cases are the powers 1, 10, 100 and 1000. -/
theorem bcdDecoder : Obligations.BcdDecoder := by
  refine fun v => ⟨fun k => ⟨digit_val v k, digit_le v k⟩, ?units, digit_val v 1, digit_val v 2, digit_val v 3⟩
  case units => rw [digit_val, Fin.val_zero, Nat.pow_zero, Nat.div_one]

end Sys2Proof.Machine
end

section
/-! SUPPORT. The step by its selector, and the four operations of the controller (42_controller.md): CTL.RENDER, the
three transitions of CTL.UPDATE with the registers each leaves, and the polls of a release-wait. -/

namespace Sys2Proof.Machine

/-! ### The step by its selector -/

theorem decode_renderSelector (k : DigitPos) :
    decode (.selw (0b000#3 ++ BitVec.ofNat 2 k.val)) = .ok (.ctlRender k) := by
  revert k
  decide

/-- The row of CTL.RENDER in R54 holds the selectors of the four digits and no other. -/
theorem renderRow_iff (w : SelWord) :
    w &&& 0b11100#5 = 0b00000#5 ↔ ∃ k : DigitPos, w = 0b000#3 ++ BitVec.ofNat 2 k.val := by
  revert w
  decide

theorem step_of_selw {s : State} {w : SelWord} {i : Instr} (hr : s.rstAsserted = false) (hw : s.regs.selw = w)
    (hd : decode (.selw w) = .ok i) : step s = exec i s.nextRst := by
  subst hw
  exact step_of_decode hr hd

theorem step_of_decode_error {s : State} {e : DecodeReject} (hr : s.rstAsserted = false)
    (hd : decode (.selw s.regs.selw) = .error e) : step s = rejectOutcome e := by
  simp [step, stepSlot, driveWord, hr, hd]

/-- Settles O2: each selector of R87 lies in its row of R54, and what lies in no row is the named fault. -/
theorem stepPerformsSelectedOperation : Obligations.StepPerformsSelectedOperation := by
  refine fun s hr => ⟨fun k hw => step_of_selw hr hw (decode_renderSelector k),
    fun hw => step_of_selw hr hw (decode_updateRow rfl), fun hw => step_of_selw hr hw (decode_awaitStartRow rfl),
    fun hw => step_of_selw hr hw (decode_awaitResetRow rfl), fun hrender hupdate hstart hreset => ?_⟩
  have noRender : s.regs.selw &&& 0b11100#5 ≠ 0b00000#5 := fun h => by
    obtain ⟨k, hk⟩ := (renderRow_iff _).1 h
    exact hrender k hk
  exact step_of_decode_error hr (decode_noRow noRender hupdate hstart hreset)

/-! ### CTL.RENDER -/

theorem segEncode_digit (v : Nat) (k : DigitPos) : segEncode (v / 10 ^ k.val % 10) = .ok (renderPair v k).1 :=
  segEncode_eq_ok_iff.2 ⟨(digit v k).isLt, rfl⟩

/-- Settles O26: the pair of the digit of TICKS goes to both latches and the observation, and PHASE holds `k + 1`
unwrapped. -/
theorem ctlRenderEffect : Obligations.CtlRenderEffect := by
  refine ⟨decode_renderSelector,
    fun k s => ⟨_, rfl, ?pattern, ?mask, nextPhase_toNat k, ?event, rfl, rfl, rfl, ?debs⟩⟩
  case pattern => exact segEncode_digit s.regs.ticks.val k
  case mask => exact selMask_eq_shift k
  case event => exact State.writePorts_events s _
  case debs => exact fun b => by simp

/-! ### CTL.UPDATE: the registers each transition leaves -/

/-- The state after CTL.UPDATE (R89). -/
def State.afterUpdate (s : State) : State := s.tick.sampleButtons.transition.setPhase 0

/-- The registers after the tick, the three samples and the write of PHASE, no transition taken. -/
def State.sampledRegs (s : State) : Regs :=
  { s.regs with
    ticks := if s.regs.run = .running then nextTicks s.regs.ticks else s.regs.ticks
    phase := 0
    debStart := s.sampled .start
    debStop := s.sampled .stop
    debReset := s.sampled .reset }

theorem State.sampledRegs_ticks_val (s : State) : s.sampledRegs.ticks.val = s.ticked := apply_ite Fin.val _ _ _

theorem State.setPhase_tick_sampleButtons_regs (s : State) :
    (s.tick.sampleButtons.setPhase 0).regs = s.sampledRegs := by
  refine Regs.eq_of_fields s.tick_ticks ?_ ?_ rfl (fun b => ?debs) ?_ ?_
  case debs =>
    rw [State.setPhase_deb, update_window]
    cases b <;> rfl
  all_goals simp [State.sampledRegs]

/-- The Reset transition (R97). -/
theorem State.afterUpdate_regs_of_reset {s : State} (hreset : (s.sampled .reset).conf = true) : s.afterUpdate.regs =
    { s.sampledRegs with
      run := .stopped, ticks := ⟨0, by decide⟩, await := awaitReset, debStop := (s.sampled .stop).clear } := by
  rw [State.afterUpdate, State.transition_reset ((update_conf s _).trans hreset),
    ← s.setPhase_tick_sampleButtons_regs, ← update_window]
  rfl

/-- The Start transition (R95). -/
theorem State.afterUpdate_regs_of_start {s : State} (hreset : (s.sampled .reset).conf = false)
    (hrun : s.regs.run = .stopped) (hstart : (s.sampled .start).conf = true) : s.afterUpdate.regs =
    { s.sampledRegs with
      run := .running, await := awaitStart, debStart := (s.sampled .start).clear
      debStop := (s.sampled .stop).clear } := by
  rw [State.afterUpdate, State.transition_start ((update_conf s _).trans hreset) (s.tick_run.trans hrun)
    ((update_conf s _).trans hstart), ← s.setPhase_tick_sampleButtons_regs, ← update_window, ← update_window]
  rfl

/-- The Stop transition (R96). -/
theorem State.afterUpdate_regs_of_stop {s : State} (hreset : (s.sampled .reset).conf = false)
    (hrun : s.regs.run = .running) (hstop : (s.sampled .stop).conf = true) : s.afterUpdate.regs =
    { s.sampledRegs with run := .stopped, debStop := (s.sampled .stop).clear } := by
  rw [State.afterUpdate, State.transition_stop ((update_conf s _).trans hreset) (s.tick_run.trans hrun)
    ((update_conf s _).trans hstop), ← s.setPhase_tick_sampleButtons_regs, ← update_window]
  rfl

/-- No transition (R94, R98). -/
theorem State.afterUpdate_regs_of_none {s : State} (hreset : (s.sampled .reset).conf = false)
    (hstart : s.regs.run = .stopped → (s.sampled .start).conf = false)
    (hstop : s.regs.run = .running → (s.sampled .stop).conf = false) : s.afterUpdate.regs = s.sampledRegs := by
  rw [State.afterUpdate, State.transition_none ((update_conf s _).trans hreset)
    (fun hrun => (update_conf s _).trans (hstart (s.tick_run.symm.trans hrun)))
    (fun hrun => (update_conf s _).trans (hstop (s.tick_run.symm.trans hrun)))]
  exact s.setPhase_tick_sampleButtons_regs

/-- Stopped, without a confirmed Reset or Start: a confirmed Stop changes nothing (R98). -/
theorem State.afterUpdate_regs_of_stopped {s : State} (hreset : (s.sampled .reset).conf = false)
    (hrun : s.regs.run = .stopped) (hstart : (s.sampled .start).conf = false) : s.afterUpdate.regs = s.sampledRegs :=
  State.afterUpdate_regs_of_none hreset (fun _ => hstart) fun hrunning => by cases hrun.symm.trans hrunning

/-- Running, without a confirmed Reset or Stop: a confirmed Start changes nothing (R98). -/
theorem State.afterUpdate_regs_of_running {s : State} (hreset : (s.sampled .reset).conf = false)
    (hrun : s.regs.run = .running) (hstop : (s.sampled .stop).conf = false) : s.afterUpdate.regs = s.sampledRegs :=
  State.afterUpdate_regs_of_none hreset (fun hstopped => by cases hrun.symm.trans hstopped) fun _ => hstop

/-- No transition writes Reset's Debouncer (R97, conflict C1). -/
theorem State.transition_debReset (s : State) : s.transition.regs.debReset = s.regs.debReset := by
  rcases s.transition_cases with ⟨_, h⟩ | ⟨_, _, _, h⟩ | ⟨_, _, _, h⟩ | ⟨_, _, _, h⟩ <;> rw [h] <;> rfl

/-- A transition other than Reset leaves TICKS (R95, R96). -/
theorem State.transition_ticks {s : State} (hreset : s.conf .reset = false) :
    s.transition.regs.ticks = s.regs.ticks := by
  rcases s.transition_cases with ⟨h, -⟩ | ⟨-, -, -, h⟩ | ⟨-, -, -, h⟩ | ⟨-, -, -, h⟩
  · exact absurd (hreset.symm.trans h) Bool.false_ne_true
  all_goals exact congrArg (·.regs.ticks) h

/-- Settles O28: the four cases of R94 are the four register files above, whose TICKS is the ticked one wherever Reset
does not overwrite it. -/
theorem ctlUpdateEffect : Obligations.CtlUpdateEffect := by
  refine ⟨decode_updateRow rfl,
    fun s => ⟨s.afterUpdate, rfl, rfl, ?seg, ?sel, ?debReset, ?reset, ?start, ?stop, ?none⟩⟩
  case seg => exact congrArg Prod.fst (update_ports s)
  case sel => exact congrArg Prod.snd (update_ports s)
  case debReset => exact (State.transition_debReset _).trans (update_window s .reset)
  case reset =>
    intro hreset
    rw [State.afterUpdate_regs_of_reset hreset]
    exact ⟨rfl, rfl, rfl, rfl, rfl⟩
  case start =>
    intro hreset hrun hstart
    rw [State.afterUpdate_regs_of_start hreset hrun hstart]
    exact ⟨rfl, s.sampledRegs_ticks_val, rfl, rfl, rfl⟩
  case stop =>
    intro hreset hrun hstop
    rw [State.afterUpdate_regs_of_stop hreset hrun hstop]
    exact ⟨rfl, s.sampledRegs_ticks_val, rfl, rfl, rfl⟩
  case none =>
    intro hreset hstart hstop
    rw [State.afterUpdate_regs_of_none hreset hstart hstop]
    exact ⟨rfl, s.sampledRegs_ticks_val, rfl, rfl, rfl⟩

/-! ### TICKS and RUN over a step -/

theorem step_next_eq_afterUpdate {s t : State} (hr : s.rstAsserted = false) (h : step s = .next t)
    (hw : s.regs.selw = 0b00100#5) : t = s.nextRst.afterUpdate := (step_next_of_updateSelector hr h hw).2

@[simp] theorem State.pollRelease_ticks (s : State) (b) : (s.pollRelease b).regs.ticks = s.regs.ticks := by
  cases h : s.peek 0 <;> simp [State.pollRelease, h]

@[simp] theorem State.pollRelease_run (s : State) (b) : (s.pollRelease b).regs.run = s.regs.run := by
  cases h : s.peek 0 <;> simp [State.pollRelease, h]

/-- Outside CTL.UPDATE nothing counts and no transition is taken (R92, R98). -/
theorem step_next_ticks_run_of_ne_update {s t : State} (hr : s.rstAsserted = false) (hw : s.regs.selw ≠ 0b00100#5)
    (h : step s = .next t) : t.regs.ticks = s.regs.ticks ∧ t.regs.run = s.regs.run := by
  rcases step_next_cases h with
    ⟨hrst, -⟩ | ⟨-, k, -, -, rfl⟩ | ⟨-, ha, hp, -⟩ | ⟨-, -, -, rfl⟩ | ⟨-, -, -, rfl⟩
  · exact absurd (hr.symm.trans hrst) Bool.false_ne_true
  · simp
  · exact absurd ((s.regs.selw_eq_iff awaitNone 4#3).2 ⟨ha, hp⟩) hw
  · simp
  · simp

theorem State.afterUpdate_ticks_val {s : State} (hreset : (s.sampled .reset).conf = false) :
    s.afterUpdate.regs.ticks.val = s.ticked := by
  have hticks : s.tick.sampleButtons.transition.regs.ticks = s.tick.sampleButtons.regs.ticks :=
    State.transition_ticks ((update_conf s _).trans hreset)
  rw [← s.sampledRegs_ticks_val, ← s.setPhase_tick_sampleButtons_regs]
  exact congrArg Fin.val hticks

/-- The tick wraps at 9999 and nowhere else (R92). -/
theorem State.ticked_eq (s : State) : s.ticked =
    if s.regs.run = .running then (if s.regs.ticks.val = 9999 then 0 else s.regs.ticks.val + 1)
    else s.regs.ticks.val := by
  have hlt : s.regs.ticks.val < 10000 := s.regs.ticks.isLt
  unfold State.ticked
  split_ifs <;> omega

/-- Settles O29: a CTL.UPDATE ticks, only its Reset transition overwrites the count, and no other operation writes
TICKS. -/
theorem ticksCountOnlyInUpdate : Obligations.TicksCountOnlyInUpdate := by
  refine fun s t hr h => ⟨fun hw => (step_next_ticks_run_of_ne_update hr hw h).1, fun hw hreset => ?count,
    fun hw hreset => ?reset⟩ <;>
    obtain rfl := step_next_eq_afterUpdate hr h hw
  case count => exact (State.afterUpdate_ticks_val (s := s.nextRst) hreset).trans s.ticked_eq
  case reset => exact congrArg (·.ticks.val) (State.afterUpdate_regs_of_reset (s := s.nextRst) hreset)

/-- A step that changes RUN is a CTL.UPDATE (R98). -/
theorem selw_eq_update_of_run_ne {s t : State} (hr : s.rstAsserted = false) (h : step s = .next t)
    (hne : t.regs.run ≠ s.regs.run) : s.regs.selw = 0b00100#5 := by
  by_contra hw
  exact hne (step_next_ticks_run_of_ne_update hr hw h).2

/-- Settles O30: a step that changes RUN is a CTL.UPDATE, and its register file is that of the one transition the
windows and RUN admit. -/
theorem onlyNamedTransitions : Obligations.OnlyNamedTransitions := by
  refine fun s t hr h => ⟨fun hrun ht => ?leaveStopped, fun hrun ht => ?leaveRunning, fun hw hrun hreset => ?ignoreStart,
    fun hw hrun hreset hstart => ?ignoreStop⟩
  case leaveStopped =>
    have hw : s.regs.selw = 0b00100#5 := selw_eq_update_of_run_ne hr h (by simp [hrun, ht])
    obtain rfl := step_next_eq_afterUpdate hr h hw
    cases hreset : (s.sampled .reset).conf with
    | true =>
      rw [State.afterUpdate_regs_of_reset (s := s.nextRst) hreset] at ht
      cases ht
    | false =>
      refine ⟨hw, ?_, rfl⟩
      by_contra hstart
      rw [State.afterUpdate_regs_of_stopped (s := s.nextRst) hreset hrun (Bool.eq_false_of_not_eq_true hstart)] at ht
      cases hrun.symm.trans ht
  case leaveRunning =>
    have hw : s.regs.selw = 0b00100#5 := selw_eq_update_of_run_ne hr h (by simp [hrun, ht])
    obtain rfl := step_next_eq_afterUpdate hr h hw
    refine ⟨hw, ?_⟩
    by_contra hconf
    obtain ⟨hstop, hreset⟩ := not_or.1 hconf
    rw [State.afterUpdate_regs_of_running (s := s.nextRst) (Bool.eq_false_of_not_eq_true hreset) hrun
      (Bool.eq_false_of_not_eq_true hstop)] at ht
    cases hrun.symm.trans ht
  case ignoreStart =>
    obtain rfl := step_next_eq_afterUpdate hr h hw
    cases hstop : (s.sampled .stop).conf with
    | true =>
      rw [State.afterUpdate_regs_of_stop (s := s.nextRst) hreset hrun hstop]
      exact ⟨rfl, rfl, fun hfalse => by cases hfalse⟩
    | false =>
      rw [State.afterUpdate_regs_of_running (s := s.nextRst) hreset hrun hstop]
      exact ⟨rfl, rfl, fun _ => hrun⟩
  case ignoreStop =>
    obtain rfl := step_next_eq_afterUpdate hr h hw
    have hticks : s.sampledRegs.ticks = s.regs.ticks := by simp [State.sampledRegs, hrun]
    rw [State.afterUpdate_regs_of_stopped (s := s.nextRst) hreset hrun hstart]
    exact ⟨rfl, rfl, hrun, hticks⟩

/-! ### One poll of a release-wait -/

theorem State.pollRelease_regs_of_released {s : State} (h : s.peek 0 = false) (b) :
    (s.pollRelease b).regs = { s.regs with await := awaitNone } := by simp [State.pollRelease_regs, h]

theorem State.pollRelease_regs_of_pressed {s : State} (h : s.peek 0 = true) (b) :
    (s.pollRelease b).regs = s.regs := by simp [State.pollRelease_regs, h]

/-- A release ends the wait at the start of the next refresh cycle, if the wait's PHASE was 0 (R25, R90, R91). -/
theorem State.pollRelease_selw_of_released {s : State} (h : s.peek 0 = false) (hp : s.regs.phase = 0#3) (b) :
    (s.pollRelease b).regs.selw = 0b00000#5 :=
  (Regs.selw_eq_iff _ awaitNone 0#3).2
    ⟨congrArg Regs.await (s.pollRelease_regs_of_released h b), (s.pollRelease_phase b).trans hp⟩

theorem State.pollRelease_selw_of_pressed {s : State} (h : s.peek 0 = true) (b) :
    (s.pollRelease b).regs.selw = s.regs.selw := congrArg Regs.selw (s.pollRelease_regs_of_pressed h b)

/-- Settles O32: the poll writes AWAIT only, so RUN is what the invariant says of the wait for Start. -/
theorem ctlAwaitStartEffect : Obligations.CtlAwaitStartEffect := by
  refine ⟨decode_awaitStartRow rfl, fun s => ⟨s.pollRelease .start, rfl, s.pollRelease_events .start,
    fun h => ⟨s.pollRelease_regs_of_released h .start, fun hp => s.pollRelease_selw_of_released h hp .start⟩,
    fun h => ⟨s.pollRelease_regs_of_pressed h .start, (s.pollRelease_selw_of_pressed h .start).trans⟩,
    fun hinv ha => ?_⟩⟩
  obtain ⟨hrunning, -⟩ := hinv.wait
  exact (s.pollRelease_run .start).trans (hrunning ha)

/-- Settles O33: the poll writes AWAIT only, so RUN, TICKS and WIN[Reset] are what the invariant says of the wait for
Reset. -/
theorem ctlAwaitResetEffect : Obligations.CtlAwaitResetEffect := by
  refine ⟨decode_awaitResetRow rfl, fun s => ⟨s.pollRelease .reset, rfl, s.pollRelease_events .reset,
    fun h => ⟨s.pollRelease_regs_of_released h .reset, fun hp => s.pollRelease_selw_of_released h hp .reset⟩,
    fun h => ⟨s.pollRelease_regs_of_pressed h .reset, (s.pollRelease_selw_of_pressed h .reset).trans⟩,
    fun hinv ha => ?_⟩⟩
  obtain ⟨-, hstopped⟩ := hinv.wait
  obtain ⟨-, -, hfull, -⟩ := hinv.windows
  refine ⟨(s.pollRelease_run .reset).trans (hstopped ha).1, ?ticks, ?window⟩
  case ticks => rw [State.pollRelease_ticks, (hstopped ha).2]
  case window => exact (congrArg Debouncer.conf (s.pollRelease_deb .reset .reset)).trans (hfull ha).1

/-! ### Any number of polls -/

/-- SELW selects the release-wait of `b` (R54, R100). -/
def Regs.Awaits (r : Regs) (b : ButtonId) : Prop :=
  b = .start ∧ r.selw = 0b01000#5 ∨ b = .reset ∧ r.selw = 0b10000#5

/-- The state after `n` released step slots that each poll the release of `b`. -/
def State.afterPolls (s : State) (b : ButtonId) : Nat → State
  | 0 => s
  | n + 1 => (s.afterPolls b n).nextRst.pollRelease b

theorem step_of_awaits {s : State} {b : ButtonId} (hr : s.rstAsserted = false) (hw : s.regs.Awaits b) :
    step s = .next (s.nextRst.pollRelease b) := by
  rcases hw with ⟨rfl, hw⟩ | ⟨rfl, hw⟩
  · exact step_of_selw hr hw (decode_awaitStartRow rfl)
  · exact step_of_selw hr hw (decode_awaitResetRow rfl)

@[simp] theorem State.afterPolls_rstAt (s : State) (b n j) : (s.afterPolls b n).rstAt j = s.rstAt (n + j) := by
  induction n generalizing j with
  | zero => simp [State.afterPolls]
  | succ n ih => simp [State.afterPolls, ih, Nat.add_assoc, Nat.add_comm 1 j]

@[simp] theorem State.afterPolls_peek (s : State) (b n j) : (s.afterPolls b n).peek j = s.peek (n + j) := by
  induction n generalizing j with
  | zero => simp [State.afterPolls]
  | succ n ih => simp [State.afterPolls, ih, Nat.add_assoc, Nat.add_comm 1 j]

/-- A pressed button suspends every register (R100). -/
theorem State.afterPolls_regs {s : State} (b) {n : Nat} (hp : ∀ j, j < n → s.peek j = true) :
    (s.afterPolls b n).regs = s.regs := by
  induction n with
  | zero => rfl
  | succ n ih =>
    have hpressed : (s.afterPolls b n).nextRst.peek 0 = true := by simp [hp n]
    exact (State.pollRelease_regs_of_pressed hpressed b).trans (ih fun j hj => hp j (by omega))

theorem State.afterPolls_succ_events (s : State) (b n) :
    (s.afterPolls b (n + 1)).events = .read b (s.peek n) :: (s.afterPolls b n).events := by
  simp [State.afterPolls]

theorem State.afterPolls_events {s : State} (b) {n : Nat} (hp : ∀ j, j < n → s.peek j = true) :
    (s.afterPolls b n).events = List.replicate n (.read b true) ++ s.events := by
  induction n with
  | zero => rfl
  | succ n ih =>
    rw [State.afterPolls_succ_events, ih fun j hj => hp j (by omega), hp n (by omega)]
    rfl

/-- The wait goes on for one step more than the reads that return true (R100). -/
theorem stepN_succ_eq_afterPolls {s : State} {b : ButtonId} (hw : s.regs.Awaits b) {n : Nat}
    (hrun : stepN n s = .next (s.afterPolls b n)) (hr : s.rstAt n = false) (hp : ∀ j, j < n → s.peek j = true) :
    stepN (n + 1) s = .next (s.afterPolls b (n + 1)) := by
  have hrst : (s.afterPolls b n).rstAsserted = false := by simp [State.rstAsserted, hr]
  have hawaits : (s.afterPolls b n).regs.Awaits b := by rwa [State.afterPolls_regs b hp]
  rw [stepN_add hrun, stepN_one]
  exact step_of_awaits hrst hawaits

theorem stepN_eq_afterPolls {s : State} {b : ButtonId} (hw : s.regs.Awaits b) {n : Nat} (hr : s.RstReleasedFor n)
    (hp : ∀ j, j < n → s.peek j = true) : stepN n s = .next (s.afterPolls b n) := by
  induction n with
  | zero => rfl
  | succ n ih =>
    have hp' : ∀ j, j < n → s.peek j = true := fun j hj => hp j (by omega)
    exact stepN_succ_eq_afterPolls hw (ih (fun j hj => hr j (by omega)) hp') (hr n (by omega)) hp'

/-- The first released read after `n` pressed ones changes AWAIT only (R100). -/
theorem State.afterPolls_succ_regs {s : State} (b) {n : Nat} (hp : ∀ j, j < n → s.peek j = true)
    (hreleased : s.peek n = false) : (s.afterPolls b (n + 1)).regs = { s.regs with await := awaitNone } := by
  have hpeek : (s.afterPolls b n).nextRst.peek 0 = false := by simp [hreleased]
  rw [← State.afterPolls_regs b hp]
  exact State.pollRelease_regs_of_released hpeek b

/-- The environment that releases RST and holds the button down for the `n` coming steps. -/
def State.holdFor (s : State) (n : Nat) : State := { s.releaseRst n with answers := List.replicate n true }

theorem State.holdFor_rstReleasedFor (s : State) (n : Nat) : (s.holdFor n).RstReleasedFor n := fun j hj =>
  (s.releaseRst_rstAt n j).trans (if_pos hj)

theorem State.holdFor_peek (s : State) {n j : Nat} (hj : j < n) : (s.holdFor n).peek j = true := by
  simp [State.peek, State.holdFor, hj]

/-- Settles O37: as long as the reads return true, each step is a poll that leaves the registers the next poll starts
from; the answers that keep the wait going are `n` times true. -/
theorem releaseWaitSuspends : Obligations.ReleaseWaitSuspends := by
  refine fun s b hw => ⟨fun n hr hp => ⟨⟨s.afterPolls b n, ?run, s.afterPolls_regs b hp, s.afterPolls_events b hp⟩,
    fun hreleased => ⟨s.afterPolls b (n + 1), ?ends, s.afterPolls_succ_regs b hp hreleased, ?events⟩⟩,
    fun n => ⟨List.replicate n true, (s.holdFor n).afterPolls b n, ?noTimeout, ?held⟩⟩
  case run => exact stepN_eq_afterPolls hw (fun j hj => hr j (by omega)) hp
  case ends =>
    exact stepN_succ_eq_afterPolls hw (stepN_eq_afterPolls hw (fun j hj => hr j (by omega)) hp) (hr n (by omega)) hp
  case events => rw [State.afterPolls_succ_events, hreleased, State.afterPolls_events b hp]
  case noTimeout =>
    exact stepN_eq_afterPolls (s := s.holdFor n) hw (s.holdFor_rstReleasedFor n) fun _ => s.holdFor_peek
  case held => exact State.afterPolls_regs (s := s.holdFor n) b fun _ => s.holdFor_peek

end Sys2Proof.Machine
end

section
/-! SUPPORT. Encoding and decoding agree (30_encoding.md R51 to R59), and the step runs what a decoded selector or a
placed table word stands for. -/

namespace Sys2Proof.Machine

/-! ### Decode of encode -/

/-- `K` of DRSEL holds every digit position (R53). -/
theorem drselK_toFin (k : DigitPos) : (BitVec.ofNat 2 k.val).toFin = k := by
  revert k
  decide

/-- `V` of DRSEL holds every value of TICK_W bits (R53). -/
theorem drselV_toNat {v : Nat} (h : v < 2 ^ Config.tickWidth) : (BitVec.ofNat Config.tickWidth v).toNat = v :=
  Nat.mod_eq_of_lt h

/-- Settles O8, one row of the opcode table per constructor. -/
theorem decodeEncodeRoundTrip : Obligations.DecodeEncodeRoundTrip := by
  intro i hi
  cases i with
  | ctlRender k => exact decode_renderSelector k
  | ctlUpdate => exact decode_updateRow rfl
  | ctlAwaitStart => exact decode_awaitStartRow rfl
  | ctlAwaitReset => exact decode_awaitResetRow rfl
  | debHold b => exact decode_hold b false
  | debSample b raw => exact decode_sample b raw
  | debClear b => exact decode_clear b false
  | drRender v k =>
    have hv : v < 2 ^ Config.tickWidth := of_decide_eq_true hi
    rw [encode, decode_drsel, drselK_toFin, drselV_toNat hv]

/-! ### Encode of decode -/

theorem encode_of_decode_selw {w : SelWord} {i : Instr} (h : decode (.selw w) = .ok i) :
    encode i = .selw w ∧ i.wellFormed = true := by
  rcases decode_selw_ok h with ⟨k, rfl, rfl⟩ | ⟨rfl, rfl⟩ | ⟨rfl, rfl⟩ | ⟨rfl, rfl⟩
  · exact ⟨congrArg ControlWord.selw (renderSelector_fields k), rfl⟩
  all_goals exact ⟨rfl, rfl⟩

/-- The four values of DEBCTL (R55). -/
theorem debctl_cases (ctl : BitVec 2) : ctl = 0b00#2 ∨ ctl = 0b01#2 ∨ ctl = 0b10#2 ∨ ctl = 0b11#2 := by
  revert ctl
  decide

/-- RAW survives the round trip in DEB.SAMPLE only, the operation that reads it (R52). -/
theorem encode_of_decode_debctl {b : ButtonId} {ctl : BitVec 2} {raw : Bool} {i : Instr}
    (h : decode (.debctl b ctl raw) = .ok i) :
    encode i = canonicalWord (.debctl b ctl raw) ∧ i.wellFormed = true := by
  rcases debctl_cases ctl with rfl | rfl | rfl | rfl
  · obtain rfl := Except.ok.inj ((decode_hold b raw).symm.trans h)
    simp [encode, canonicalWord, Instr.wellFormed]
  · obtain rfl := Except.ok.inj ((decode_sample b raw).symm.trans h)
    simp [encode, canonicalWord, Instr.wellFormed]
  · obtain rfl := Except.ok.inj ((decode_clear b raw).symm.trans h)
    simp [encode, canonicalWord, Instr.wellFormed]
  · cases (decode_debctlReserved b raw).symm.trans h

theorem encode_of_decode_drsel (k : BitVec 2) (v : BitVec Config.tickWidth) :
    encode (.drRender v.toNat k.toFin) = .drsel k v ∧ (Instr.drRender v.toNat k.toFin).wellFormed = true := by
  refine ⟨?_, decide_eq_true v.isLt⟩
  simp [encode]

/-- Settles O9, format by format. -/
theorem encodeDecodeRoundTrip : Obligations.EncodeDecodeRoundTrip := by
  intro w i h
  cases w with
  | selw w => exact encode_of_decode_selw h
  | debctl b ctl raw => exact encode_of_decode_debctl h
  | drsel k v =>
    obtain rfl := Except.ok.inj ((decode_drsel k v).symm.trans h)
    exact encode_of_decode_drsel k v

/-- Settles O10: each word lies in its row of R54, R55 or R53, or in none. -/
theorem specWordsDecode : Obligations.SpecWordsDecode :=
  ⟨decode_renderSelector 3, decode_updateRow rfl, decode_awaitStartRow rfl, decode_awaitResetRow rfl,
    decode_noRow (by decide) (by decide) (by decide) (by decide), decode_sample .reset true, decode_drsel _ _⟩

/-! ### What a step runs -/

/-- Settles O3: the one way a selector fails to decode is the named fault. -/
theorem stepRunsDecodedInstruction : Obligations.StepRunsDecodedInstruction := by
  refine fun s hr => ⟨fun i hd => step_of_decode hr hd, fun e hd => ?_⟩
  obtain rfl := decode_selw_error hd
  exact step_of_decode_error hr hd

theorem State.setSelw_selw (s : State) (w : SelWord) : (s.setSelw w).regs.selw = w := by
  have key : ∀ w : SelWord, w.extractLsb' 3 2 ++ w.extractLsb' 0 3 = w := by decide
  exact key w

/-- A table word that decodes fits SELW, and it decodes as that selector. -/
theorem decodeTableWord_eq_some {nbits w : Nat} {i : Instr} (h : decodeTableWord nbits w = some i) :
    decode (.selw ((tableSelw nbits w).getD 0b11111#5)) = .ok i := by
  unfold decodeTableWord at h
  cases hsel : tableSelw nbits w with
  | none => simp [hsel] at h
  | some sel =>
    cases hd : decode (.selw sel) with
    | ok j => simpa [hsel, hd, Except.toOption] using h
    | error e => simp [hsel, hd, Except.toOption] at h

theorem State.withFetchWord_rstAt (s : State) (nbits w n : Nat) :
    (s.withFetchWord nbits w).rstAt n = if n < 1 then false else s.rstAt n := s.releaseRst_rstAt 1 n

/-- Settles O4: placing a word is a release of RST for one slot and a write of SELW, so the frame is that of the two. -/
theorem placedWordIsRunNext : Obligations.PlacedWordIsRunNext := by
  refine fun s nbits w i h => ⟨?runs, rfl, rfl, rfl, rfl, rfl, rfl, ?levels, ?released, fun n => ?later⟩
  case runs =>
    exact step_of_selw (s.withFetchWord_rstAt nbits w 0) (State.setSelw_selw _ _) (decodeTableWord_eq_some h)
  case levels => exact congrArg (false :: ·) List.drop_one
  case released => exact s.withFetchWord_rstAt nbits w 0
  case later => exact s.withFetchWord_rstAt nbits w (n + 1)

end Sys2Proof.Machine
end

section
/-! SUPPORT. The laws of one Debouncer over any number of operations (40_debouncer.md section 3): the voter, the window
as the end of a sample history, and when the window confirms. -/

namespace Sys2Proof.Machine

variable {N : Nat}

/-! ### The voter -/

theorem count_true_eq_sum_toNat (l : List Bool) : l.count true = (l.map Bool.toNat).sum := by
  induction l with
  | nil => rfl
  | cons x l ih => cases x <;> simp [ih, Nat.add_comm]

theorem Debouncer.win_toList (d : Debouncer N) : d.win.toList = (List.finRange N).map fun i => d.win[i.val] := by
  apply List.ext_getElem <;> simp

theorem Debouncer.count_eq_sum (d : Debouncer N) :
    d.count = ((List.finRange N).map fun i => d.win[i.val].toNat).sum := by
  rw [Debouncer.count, count_true_eq_sum_toNat, Debouncer.win_toList, List.map_map]
  rfl

/-- COUNT fits ceil(log2(N + 1)) bits (R71). -/
theorem Debouncer.count_lt_two_pow (d : Debouncer N) : d.count < 2 ^ Nat.clog 2 (N + 1) := calc
  d.count < N + 1 := Nat.lt_succ_of_le d.count_le
  _ ≤ 2 ^ Nat.clog 2 (N + 1) := Nat.le_pow_clog (by decide) _

theorem Debouncer.conf_iff_count (d : Debouncer N) : d.conf = true ↔ d.count = N := beq_iff_eq

theorem Debouncer.conf_eq_of_win {d e : Debouncer N} (h : e.win = d.win) : e.conf = d.conf := by
  rw [Debouncer.conf, Debouncer.count, h]
  rfl

/-- Settles O14: COUNT is a sum over the slots of the window, and CONF asks it to be the greatest one. -/
theorem consensusVoter : Obligations.ConsensusVoter := fun _ d =>
  ⟨d.count_eq_sum, d.count_le, d.count_lt_two_pow, d.conf_iff_count, d.conf_iff_slots,
    fun _ => Debouncer.conf_eq_of_win⟩

/-! ### The window holds the end of a sample history -/

/-- The window, newest first, is the newest `N` values of the history `h`. -/
def Debouncer.Records (d : Debouncer N) (h : List Bool) : Prop := N ≤ h.length ∧ d.ages = h.take N

theorem Debouncer.records_ages (d : Debouncer N) : d.Records d.ages := by
  simp [Debouncer.Records, List.take_of_length_le]

theorem Debouncer.records_reset (h : 0 < N) : (Debouncer.reset N h).Records (List.replicate N false) := by
  simp [Debouncer.Records, Debouncer.ages_reset]

theorem Debouncer.records_clear (d : Debouncer N) (h : List Bool) : d.clear.Records (List.replicate N false ++ h) := by
  simp [Debouncer.Records, Debouncer.ages_clear]

/-- A sample drops the oldest value of the window. -/
theorem Debouncer.Records.sample {d : Debouncer N} {h : List Bool} (hd : d.Records h) (raw : Bool) :
    (d.sample raw).Records (raw :: h) := by
  obtain ⟨hlen, hages⟩ := hd
  obtain ⟨n, rfl⟩ : ∃ n, N = n + 1 := Nat.exists_eq_succ_of_ne_zero (Nat.ne_of_gt d.idx.pos)
  refine ⟨Nat.le_succ_of_le hlen, ?_⟩
  rw [Debouncer.ages_sample, hages, List.take_succ_cons]
  simp [List.dropLast_eq_take, List.take_take, Nat.min_eq_left hlen]

theorem Debouncer.Records.apply {d : Debouncer N} {h : List Bool} (hd : d.Records h) (op : DebOp) :
    (d.apply op).Records (historyStep N h op) := by
  cases op with
  | hold => exact hd
  | sample raw => exact hd.sample raw
  | clear => exact d.records_clear h

theorem Debouncer.Records.foldl_apply {d : Debouncer N} {h : List Bool} (hd : d.Records h) (ops : List DebOp) :
    (ops.foldl Debouncer.apply d).Records (ops.foldl (historyStep N) h) := by
  induction ops generalizing d h with
  | nil => exact hd
  | cons op ops ih => exact ih (hd.apply op)

theorem Debouncer.Records.foldl_sample {d : Debouncer N} {h : List Bool} (hd : d.Records h) (raws : List Bool) :
    (d.samples raws).Records (raws.reverse ++ h) := by
  induction raws generalizing d h with
  | nil => exact hd
  | cons raw raws ih =>
    rw [List.reverse_cons, List.append_assoc]
    exact ih (hd.sample raw)

theorem Debouncer.Records.conf_iff {d : Debouncer N} {h : List Bool} (hd : d.Records h) :
    d.conf = true ↔ ∀ x ∈ h.take N, x = true := hd.2 ▸ d.conf_iff_ages

/-- The slot `(IDX - j) mod N` is the `j`-th most recent value (R72). -/
theorem Debouncer.Records.slot {d : Debouncer N} {h : List Bool} (hd : d.Records h) {j : Nat} (hj : 1 ≤ j ∧ j ≤ N) :
    some (d.win[(d.idx.val + N - j) % N]'(Nat.mod_lt _ d.idx.pos)) = h[j - 1]? := by
  obtain ⟨i, rfl⟩ : ∃ i, j = i + 1 := Nat.exists_eq_succ_of_ne_zero (by omega)
  have hi : i < N := hj.2
  calc some (d.win[(d.idx.val + N - (i + 1)) % N]'(Nat.mod_lt _ d.idx.pos))
    _ = d.ages[i]? := by rw [← Debouncer.ages_getElem d i hi, List.getElem?_eq_getElem]
    _ = (h.take N)[i]? := by rw [hd.2]
    _ = h[i]? := List.getElem?_take_of_lt hi

/-- Settles O15: every operation keeps the window the end of the history, which hardware reset begins. -/
theorem windowHoldsLastSamples : Obligations.WindowHoldsLastSamples := by
  intro N h ops
  have hrec := (Debouncer.records_reset h).foldl_apply ops
  exact ⟨hrec.1, fun _ => hrec.slot, hrec.conf_iff⟩

/-! ### When a window confirms -/

/-- After a false value the window confirms once `N` later samples, all true, have pushed it out. -/
theorem Debouncer.conf_samples_iff {d : Debouncer N} {h : List Bool} (hd : d.Records (false :: h)) (raws : List Bool) :
    (d.samples raws).conf = true ↔ N ≤ raws.length ∧ ∀ x ∈ raws.drop (raws.length - N), x = true := by
  rw [(hd.foldl_sample raws).conf_iff]
  rcases Nat.lt_or_ge raws.length N with hlt | hge
  · have hfalse : false ∈ (raws.reverse ++ false :: h).take N :=
      List.mem_take_iff_getElem.2 ⟨raws.length, by simp; omega, by simp⟩
    exact ⟨fun hall => absurd (hall false hfalse) Bool.false_ne_true, fun hconf => absurd hconf.1 (by omega)⟩
  · have hnewest : (raws.reverse ++ false :: h).take N = (raws.drop (raws.length - N)).reverse := by
      rw [List.take_append_of_le_length (by simpa using hge), List.take_reverse]
    simp [hnewest, hge]

theorem Debouncer.conf_clear_samples_iff (h : 0 < N) (d : Debouncer N) (raws : List Bool) :
    (d.clear.samples raws).conf = true ↔ N ≤ raws.length ∧ ∀ x ∈ raws.drop (raws.length - N), x = true := by
  obtain ⟨n, rfl⟩ : ∃ n, N = n + 1 := Nat.exists_eq_succ_of_ne_zero (Nat.ne_of_gt h)
  exact Debouncer.conf_samples_iff (d.records_clear []) raws

/-- Settles O16: a clear and a false sample both leave a history whose newest value is false. -/
theorem confirmedExactlyAfterNTrueSamples : Obligations.ConfirmedExactlyAfterNTrueSamples := fun _ h d raws =>
  ⟨d.conf_clear_samples_iff h raws, Debouncer.conf_samples_iff (d.records_ages.sample false) raws⟩

theorem Debouncer.conf_sample_true {d : Debouncer N} (h : d.conf = true) : (d.sample true).conf = true := by
  rw [Debouncer.conf_iff_slots] at h ⊢
  intro i hi
  rw [Debouncer.sample_slot]
  split
  · rfl
  · exact h i hi

/-- A false sample stands in the window, so it does not confirm (R73). -/
theorem Debouncer.conf_sample_false (d : Debouncer N) : (d.sample false).conf = false := by
  rw [Bool.eq_false_iff]
  intro hconf
  have hslot := (Debouncer.conf_iff_slots _).1 hconf d.idx.val d.idx.isLt
  simp [Debouncer.sample_slot] at hslot

/-- Settles O17, one true sample after the other. -/
theorem confirmedWindowStaysConfirmed : Obligations.ConfirmedWindowStaysConfirmed := by
  intro N d raws hconf hraws
  induction raws generalizing d with
  | nil => exact hconf
  | cons raw raws ih =>
    obtain ⟨rfl, hrest⟩ := List.forall_mem_cons.1 hraws
    exact ih _ (Debouncer.conf_sample_true hconf) hrest

end Sys2Proof.Machine
end

section
/-! SUPPORT. What the display shows of a value (41_digit_renderer.md section 2): the four digits make up the value
modulo 10000, and the patterns tell the digits apart. -/

namespace Sys2Proof.Machine

/-! ### The four digits -/

theorem digits_sum (v : Nat) :
    (digit v 0).val + 10 * (digit v 1).val + 100 * (digit v 2).val + 1000 * (digit v 3).val = v % 10000 := by
  obtain ⟨-, h0, h1, h2, h3⟩ := bcdDecoder v
  omega

/-- Leading digits are 0, so the display has no blanking (R77). -/
theorem digit_eq_zero_of_lt {v : Nat} {k : DigitPos} (h : v < 10 ^ k.val) : (digit v k).val = 0 := by
  rw [digit_val, Nat.div_eq_of_lt h]

/-- Settles O21: the weighted sum is that of the decimal places of R77. -/
theorem digitsReconstructValue : Obligations.DigitsReconstructValue := fun v =>
  ⟨digits_sum v, fun _ => digit_eq_zero_of_lt⟩

/-! ### The patterns -/

/-- No two digits share a pattern (R79). -/
theorem segTab_injective : Function.Injective segTab := by decide

theorem digit_eq_of_renderSequence_eq {v w : Nat} (h : renderSequence v = renderSequence w) (k : DigitPos) :
    digit v k = digit w k := by
  have hpair : renderPair v k = renderPair w k := List.map_inj_left.1 h k (List.mem_finRange k)
  exact segTab_injective (congrArg Prod.fst hpair)

/-- Settles O22: equal patterns are equal digits, and below 10000 the digits are the value. -/
theorem displayDeterminesValue : Obligations.DisplayDeterminesValue := by
  intro v w hv hw h
  have hdigit := digit_eq_of_renderSequence_eq h
  calc v = v % 10000 := (Nat.mod_eq_of_lt hv).symm
    _ = w % 10000 := by rw [← digits_sum v, ← digits_sum w, hdigit, hdigit, hdigit, hdigit]
    _ = w := Nat.mod_eq_of_lt hw

/-- Settles O23: the encoder's test is `d < 10`, which every digit meets. -/
theorem segmentEncoderRefusesNonDigits : Obligations.SegmentEncoderRefusesNonDigits :=
  ⟨fun _ hd => dif_neg (Nat.not_lt.2 hd), segEncode_digit⟩

/-- Settles O24: the pair is kept in `returned`, which is no register. -/
theorem drRenderReturnsPair : Obligations.DrRenderReturnsPair := by
  refine ⟨decode_drsel, fun v k s => ⟨_, _, rfl, segEncode_digit v k, ?mask, rfl, rfl⟩⟩
  case mask => exact congrArg (fun mask => some ((renderPair v k).1, mask)) (selMask_eq_shift k)

end Sys2Proof.Machine
end

section
/-! SUPPORT. The step without its selector's operation: which selectors are legal, that every step from one answers a
next state, what a step slot does to RST's levels, and what each operation does to the inputs and the observation. -/

namespace Sys2Proof.Machine

/-! ### Hardware reset -/

/-- Settles O1: every register of `State.reset` is written out there, and SELW = 00000 selects CTL.RENDER 0. -/
theorem hardwareResetValues : Obligations.HardwareResetValues := by
  refine ⟨⟨rfl, rfl, rfl, rfl, rfl, rfl, fun b => ?windows⟩, fun s hr => ?asserted, fun s hr hregs => ?first⟩
  case windows => cases b <;> exact ⟨fun _ _ => Vector.getElem_replicate _, rfl⟩
  case asserted => exact ⟨_, step_of_rst hr, rfl, rfl, rfl, rfl⟩
  case first => exact step_of_selw hr (congrArg Regs.selw hregs) (decode_renderSelector 0)

/-! ### Legal selectors -/

/-- The fields of the legal selectors are those of the rows of R54. -/
theorem Regs.selectorLegal_iff_rows (r : Regs) : r.SelectorLegal ↔
    (∃ k : DigitPos, r.selw = 0b000#3 ++ BitVec.ofNat 2 k.val) ∨ r.selw = 0b00100#5 ∨ r.selw = 0b01000#5 ∨
      r.selw = 0b10000#5 := by
  have key : ∀ (a : AwaitField) (p : PhaseField),
      (a = awaitNone ∧ p.toNat ≤ 4) ∨ (a = awaitStart ∧ p = 0) ∨ (a = awaitReset ∧ p = 0) ↔
        (∃ k : DigitPos, a ++ p = 0b000#3 ++ BitVec.ofNat 2 k.val) ∨ a ++ p = 0b00100#5 ∨ a ++ p = 0b01000#5 ∨
          a ++ p = 0b10000#5 := by decide
  exact key _ _

theorem decode_of_selectorLegal {r : Regs} (h : r.SelectorLegal) : ∃ i, decode (.selw r.selw) = .ok i := by
  rcases r.selectorLegal_iff_rows.1 h with ⟨k, hw⟩ | hw | hw | hw <;> rw [hw]
  · exact ⟨_, decode_renderSelector k⟩
  · exact ⟨_, decode_updateRow rfl⟩
  · exact ⟨_, decode_awaitStartRow rfl⟩
  · exact ⟨_, decode_awaitResetRow rfl⟩

theorem decode_of_not_selectorLegal {r : Regs} (h : ¬ r.SelectorLegal) :
    decode (.selw r.selw) = .error (.illegalSelector r.selw) := by
  rw [Regs.selectorLegal_iff_rows, not_or, not_or, not_or, ← renderRow_iff] at h
  obtain ⟨hrender, hupdate, hstart, hreset⟩ := h
  exact decode_noRow hrender hupdate hstart hreset

theorem exec_eq_next (i : Instr) (s : State) : ∃ t, exec i s = .next t := by
  cases i <;> exact ⟨_, rfl⟩

theorem step_of_selectorLegal {s : State} (h : s.regs.SelectorLegal) : ∃ t, step s = .next t := by
  rcases s.rst_cases with hr | hr
  · exact ⟨_, step_of_rst hr⟩
  · obtain ⟨i, hd⟩ := decode_of_selectorLegal h
    rw [step_of_decode hr hd]
    exact exec_eq_next i s.nextRst

theorem step_of_not_selectorLegal {s : State} (hr : s.rstAsserted = false) (h : ¬ s.regs.SelectorLegal) :
    step s = .fault (.illegalSelector s.regs.selw) := step_of_decode_error hr (decode_of_not_selectorLegal h)

theorem State.pollRelease_selectorLegal {s : State} (h : s.regs.SelectorLegal) (hp : s.regs.phase = 0#3) (b) :
    (s.pollRelease b).regs.SelectorLegal := by
  rw [State.pollRelease_regs]
  split_ifs
  · exact h
  · exact .inl ⟨rfl, by simp [hp]⟩

/-- No operation writes a reserved value to SELW, and its PHASE is 0 in a wait (R25, R58). -/
theorem step_next_selectorLegal {s t : State} (h : step s = .next t) : t.regs.SelectorLegal := by
  rcases step_next_cases h with
    ⟨-, rfl⟩ | ⟨-, k, ha, -, rfl⟩ | ⟨-, ha, -, rfl⟩ | ⟨-, ha, hp, rfl⟩ | ⟨-, ha, hp, rfl⟩
  · exact .inl ⟨rfl, Nat.zero_le 4⟩
  · exact .inl ⟨ha, (nextPhase_toNat k).trans_le k.isLt⟩
  · have hawait := update_await s.nextRst
    split_ifs at hawait
    · exact .inr (.inr ⟨hawait, rfl⟩)
    · exact .inr (.inl ⟨hawait, rfl⟩)
    · exact .inl ⟨hawait.trans ha, Nat.zero_le 4⟩
  · exact State.pollRelease_selectorLegal (s := s.nextRst) (.inr (.inl ⟨ha, hp⟩)) hp .start
  · exact State.pollRelease_selectorLegal (s := s.nextRst) (.inr (.inr ⟨ha, hp⟩)) hp .reset

/-- Settles O44. -/
theorem legalSelectorStepsOn : Obligations.LegalSelectorStepsOn := by
  intro s hs
  obtain ⟨t, h⟩ := step_of_selectorLegal hs
  exact ⟨t, h, step_next_selectorLegal h⟩

/-- Settles O46: RST and a legal selector both answer a next state, and only the third case is left. -/
theorem illegalSelectorFaults : Obligations.IllegalSelectorFaults := by
  refine fun s f => ⟨fun h => ?_, fun ⟨hr, hs, hf⟩ => hf ▸ step_of_not_selectorLegal hr hs⟩
  have hs : ¬ s.regs.SelectorLegal := fun hlegal => by
    obtain ⟨t, ht⟩ := step_of_selectorLegal hlegal
    cases h.symm.trans ht
  rcases s.rst_cases with hr | hr
  · cases h.symm.trans (step_of_rst hr)
  · exact ⟨hr, hs, (Host.Outcome.fault.inj ((step_of_not_selectorLegal hr hs).symm.trans h)).symm⟩

theorem step_ne_refused (s : State) (r : Refusal) : step s ≠ .refused r := by
  intro h
  rcases s.rst_cases with hr | hr
  · cases h.symm.trans (step_of_rst hr)
  · by_cases hs : s.regs.SelectorLegal
    · obtain ⟨t, ht⟩ := step_of_selectorLegal hs
      cases h.symm.trans ht
    · cases h.symm.trans (step_of_not_selectorLegal hr hs)

/-- Settles O7: the reserved word is rejected under its name, and a step decodes SELW only, which rejects by fault. -/
theorem reservedDebctlRefused : Obligations.ReservedDebctlRefused := by
  refine ⟨fun b raw s => ?_, step_ne_refused⟩
  simp [driveWord, decode_debctlReserved, rejectOutcome]

/-! ### The inputs and the observation -/

/-- Settles O36: each operation is a chain of writes to the registers, reads and port writes, and only CTL.UPDATE makes
more than one read. -/
theorem environmentFieldsFrame : Obligations.EnvironmentFieldsFrame := by
  intro i s
  cases i with
  | ctlUpdate => exact ⟨_, rfl, by simp [readCount, State.sampleButtons_answers, State.sampleButtons_peek]⟩
  | _ => exact ⟨_, rfl, by simp [readCount]⟩

theorem update_events (s : State) : (s.tick.sampleButtons.transition.setPhase 0).events =
    .read .reset (s.peek 2) :: .read .stop (s.peek 1) :: .read .start (s.peek 0) :: s.events := by
  simp [State.sampleButtons_events]

/-- Settles O35: each selector fixes the step's operation, whose events and ports the laws above give. -/
theorem eventsOfEachStep : Obligations.EventsOfEachStep := by
  refine fun s t hr h => ⟨fun k hw => ?render, fun hw => ?update, fun hw => ?awaitStart, fun hw => ?awaitReset⟩
  case render =>
    obtain ⟨-, rfl⟩ := step_next_of_renderSelector hr h hw
    exact ⟨rfl, rfl⟩
  case update =>
    obtain ⟨-, rfl⟩ := step_next_of_updateSelector hr h hw
    exact ⟨update_ports s.nextRst, update_events s.nextRst⟩
  case awaitStart =>
    obtain ⟨-, -, rfl⟩ := step_next_of_awaitStartSelector hr h hw
    exact ⟨s.nextRst.pollRelease_ports .start, s.nextRst.pollRelease_events .start⟩
  case awaitReset =>
    obtain ⟨-, -, rfl⟩ := step_next_of_awaitResetSelector hr h hw
    exact ⟨s.nextRst.pollRelease_ports .reset, s.nextRst.pollRelease_events .reset⟩

/-! ### The samples of CTL.UPDATE -/

/-- A transition leaves each window or clears it. -/
theorem State.transition_deb (s : State) (b : ButtonId) :
    s.transition.regs.deb b = s.regs.deb b ∨ s.transition.regs.deb b = (s.regs.deb b).clear := by
  rcases s.transition_cases with ⟨-, h⟩ | ⟨-, -, -, h⟩ | ⟨-, -, -, h⟩ | ⟨-, -, -, h⟩ <;> rw [h]
  · cases b <;> simp [State.resetTransition]
  · cases b <;> simp [State.startTransition]
  · cases b <;> simp [State.stopTransition]
  · exact .inl rfl

theorem update_deb_idx (s : State) (b : ButtonId) :
    ((s.tick.sampleButtons.transition.setPhase 0).regs.deb b).idx = (s.sampled b).idx := by
  rw [State.setPhase_deb, State.transition_idx, update_window]

theorem update_deb (s : State) (b : ButtonId) :
    (s.tick.sampleButtons.transition.setPhase 0).regs.deb b = s.sampled b ∨
      (s.tick.sampleButtons.transition.setPhase 0).regs.deb b = (s.sampled b).clear := by
  rw [State.setPhase_deb, ← update_window]
  exact State.transition_deb _ b

/-- Settles O31: one sample of each button, which no transition takes back, and no other write of an index. -/
theorem updateSamplesEachButtonOnce : Obligations.UpdateSamplesEachButtonOnce := by
  refine ⟨fun s => ⟨_, rfl, ?reads, fun b => ⟨?index, update_deb s b⟩⟩, fun k s => ⟨_, rfl, fun b => ?render⟩,
    fun s => ⟨_, rfl, s.pollRelease_deb .start⟩, fun s => ⟨_, rfl, s.pollRelease_deb .reset⟩⟩
  case reads => simp
  case index => exact congrArg Fin.val (update_deb_idx s b)
  case render => simp

/-! ### Runs -/

theorem stepN_succ {s u : State} (h : step s = .next u) (n : Nat) : stepN (n + 1) s = stepN n u := by
  simp [stepN, h]

theorem stepN_ne_refused (n : Nat) (s : State) (r : Refusal) : stepN n s ≠ .refused r := by
  induction n generalizing s with
  | zero => exact fun h => by cases h
  | succ n ih =>
    cases h : step s with
    | next u => rw [stepN_succ h]; exact ih u
    | fault f => simp [stepN, h]
    | refused q => exact absurd h (step_ne_refused s q)

/-- A property that every step keeps, and from which every step answers a next state, holds along every run. -/
theorem stepN_keeps {P : State → Prop} (hP : ∀ s, P s → ∃ t, step s = .next t ∧ P t) (n : Nat) {s : State} (hs : P s) :
    ∃ t, stepN n s = .next t ∧ P t := by
  induction n generalizing s with
  | zero => exact ⟨s, rfl, hs⟩
  | succ n ih =>
    obtain ⟨u, hu, hPu⟩ := hP s hs
    rw [stepN_succ hu]
    exact ih hPu

/-! ### RST at any slot -/

/-- Every step slot spends one level of RST, whatever happens in it. -/
theorem step_next_rstAt {s t : State} (h : step s = .next t) (n : Nat) : t.rstAt n = s.rstAt (n + 1) := by
  rcases step_next_cases h with
    ⟨-, rfl⟩ | ⟨-, k, -, -, rfl⟩ | ⟨-, -, -, rfl⟩ | ⟨-, -, -, rfl⟩ | ⟨-, -, -, rfl⟩ <;> simp

theorem stepN_of_rstAt {n : Nat} {s : State} (hs : s.regs.SelectorLegal) (hr : s.rstAt n = true) :
    ∃ t, stepN (n + 1) s = .next t ∧ t.regs = State.reset.regs := by
  induction n generalizing s with
  | zero => exact ⟨_, (stepN_one s).trans (step_of_rst hr), rfl⟩
  | succ n ih =>
    obtain ⟨u, hu, hlegal⟩ := legalSelectorStepsOn s hs
    rw [stepN_succ hu]
    exact ih hlegal ((step_next_rstAt hu n).trans hr)

/-- A held RST keeps the registers at reset and lets nothing be read or written (R117, R121). -/
theorem stepN_of_rstHeld {n : Nat} {s : State} (hr : ∀ j, j ≤ n → s.rstAt j = true) :
    ∃ t, stepN (n + 1) s = .next t ∧ t.regs = State.reset.regs ∧ t.reads = s.reads ∧ t.events = s.events := by
  induction n generalizing s with
  | zero => exact ⟨_, (stepN_one s).trans (step_of_rst (hr 0 le_rfl)), rfl, rfl, rfl⟩
  | succ n ih =>
    have hfirst := step_of_rst (hr 0 (Nat.zero_le _))
    rw [stepN_succ hfirst]
    exact ih fun j hj => (step_next_rstAt hfirst j).trans (hr (j + 1) (Nat.succ_le_succ hj))

/-- Settles O52. -/
theorem rstAssertedAtAnySlot : Obligations.RstAssertedAtAnySlot :=
  ⟨fun _ _ => stepN_of_rstAt, fun _ _ => stepN_of_rstHeld⟩

/-! ### Stimulus programs -/

theorem lineMatches_cycle_eq_false_iff (s p v : Bool) (r : Regs) :
    lineMatches (.cycle s p v) r = false ↔ r.selw ≠ 0b00000#5 := by simp [lineMatches]

theorem lineMatches_poll_eq_false_iff (v : Bool) (r : Regs) :
    lineMatches (.poll v) r = false ↔ r.await = 0b00#2 := by simp [lineMatches]

/-- A line is refused exactly when it does not match, since the steps of its run never are (R65). -/
theorem runLine_eq_refused_iff (n : Nat) (l : Line) (s : State) (r : Refusal) :
    runLine n l s = .refused r ↔ lineMatches l s.regs = false ∧ r = .stimulusMismatch n := by
  cases h : lineMatches l s.regs
  · simp [runLine, h, eq_comm]
  · simp [runLine, h, stepN_ne_refused]

theorem runLines_of_mismatch {l : Line} {s : State} (h : lineMatches l s.regs = false) (n : Nat) (ls : List Line) :
    runLines n (l :: ls) s = .refused (.stimulusMismatch n) := by
  simp [runLines, (runLine_eq_refused_iff n l s _).2 ⟨h, rfl⟩]

theorem runLines_of_next {n : Nat} {l : Line} {s t : State} (h : runLine n l s = .next t) (ls : List Line) :
    runLines n (l :: ls) s = runLines (n + 1) ls t := by
  simp [runLines, h]

/-- Settles O51. -/
theorem stimulusMismatchRefused : Obligations.StimulusMismatchRefused := by
  refine ⟨fun n l s => ?mismatch, fun n l s r h => ((runLine_eq_refused_iff n l s r).1 h).2,
    fun n l ls s h => runLines_of_mismatch h n ls, fun n l ls s t h => runLines_of_next h ls, fun _ _ => rfl⟩
  case mismatch =>
    rw [runLine_eq_refused_iff, and_iff_left rfl]
    cases l with
    | cycle start stop reset => exact lineMatches_cycle_eq_false_iff start stop reset s.regs
    | poll v => exact lineMatches_poll_eq_false_iff v s.regs

end Sys2Proof.Machine
end

section
/-! SUPPORT. The invariant of the registers (10_state.md section 3, 42_controller.md section 6): it holds at reset, each
controller operation keeps it, and so every run from it goes on. -/

namespace Sys2Proof.Machine

/-! ### AWAIT = NONE is no wait -/

theorem awaitNone_ne_awaitStart : awaitNone ≠ awaitStart := by decide

theorem awaitNone_ne_awaitReset : awaitNone ≠ awaitReset := by decide

/-- Outside a wait nothing is asked of RUN and TICKS (R25). -/
theorem Regs.waitCoherent_of_none {r : Regs} (ha : r.await = awaitNone) : r.WaitCoherent :=
  ⟨fun h => absurd (ha.symm.trans h) awaitNone_ne_awaitStart, fun h => absurd (ha.symm.trans h) awaitNone_ne_awaitReset⟩

/-- Outside a wait the windows are asked to fit RUN and TICKS only (R97, R128). -/
theorem Regs.windowsCoherent_of_none {r : Regs} (ha : r.await = awaitNone)
    (hreset : r.debReset.conf = true → r.run = .stopped ∧ r.ticks.val = 0)
    (hstop : r.run = .running → r.debStop.conf = false) : r.WindowsCoherent :=
  ⟨hreset, hstop, fun h => absurd (ha.symm.trans h) awaitNone_ne_awaitReset,
    fun h => absurd (ha.symm.trans h) awaitNone_ne_awaitStart⟩

/-! ### PHASE during and between refresh cycles -/

theorem nextPhase_ne_zero (k : DigitPos) : BitVec.ofNat 3 (k.val + 1) ≠ 0#3 := by
  revert k
  decide

theorem nextPhase_injective {k j : DigitPos} (h : BitVec.ofNat 3 (k.val + 1) = BitVec.ofNat 3 (j.val + 1)) : k = j := by
  have hval := congrArg BitVec.toNat h
  rw [nextPhase_toNat, nextPhase_toNat] at hval
  exact Fin.ext (Nat.succ.inj hval)

/-- Where PHASE is 0, no digit of the current refresh cycle is on the ports. -/
theorem Regs.displayCoherent_of_phase_zero {r : Regs} (hp : r.phase = 0#3) : r.DisplayCoherent := fun k _ hk =>
  absurd (hk.symm.trans hp) (nextPhase_ne_zero k)

/-! ### Hardware reset -/

/-- Settles O42: the ports are the blank ones of reset, no window is full and every index is 0. -/
theorem invariantAtReset : Obligations.InvariantAtReset where
  selector := .inl ⟨rfl, Nat.zero_le 4⟩
  wait := Regs.waitCoherent_of_none rfl
  ports := .inl ⟨rfl, rfl, rfl⟩
  display := Regs.displayCoherent_of_phase_zero rfl
  held := fun _ => .inr ⟨rfl, rfl, rfl⟩
  windows := Regs.windowsCoherent_of_none rfl (fun _ => ⟨rfl, rfl⟩) fun _ => rfl
  indices := ⟨rfl, rfl⟩

/-! ### CTL.RENDER -/

theorem Regs.Inv.render {r : Regs} (h : r.Inv) (ha : r.await = awaitNone) (k : DigitPos) :
    Regs.Inv { r with
      phase := BitVec.ofNat 3 (k.val + 1)
      segOut := (renderPair r.ticks.val k).1
      selOut := (renderPair r.ticks.val k).2 } where
  selector := .inl ⟨ha, (nextPhase_toNat k).trans_le k.isLt⟩
  wait := h.wait
  ports := .inr ⟨⟨_, rfl⟩, _, rfl⟩
  display := fun j _ hj => by rw [← nextPhase_injective hj]; rfl
  held := fun hp => absurd hp (nextPhase_ne_zero k)
  windows := h.windows
  indices := h.indices

/-! ### A poll of a release-wait -/

/-- In a wait something was rendered before, so the ports are not blank. -/
theorem Regs.Inv.portsShown {r : Regs} (h : r.Inv) (hw : r.selw ≠ 0b00000#5) :
    (∃ d, r.segOut = segTab d) ∧ ∃ k, r.selOut = selMask k :=
  h.ports.resolve_left fun ⟨_, _, hblank⟩ => hw hblank

theorem Regs.Inv.release {r : Regs} (h : r.Inv) (ha : r.await ≠ awaitNone) (hp : r.phase = 0#3) :
    Regs.Inv { r with await := awaitNone } where
  selector := .inl ⟨rfl, by simp [hp]⟩
  wait := Regs.waitCoherent_of_none rfl
  ports := .inr (h.portsShown fun hw => ha ((r.selw_eq_iff awaitNone 0#3).1 hw).1)
  display := Regs.displayCoherent_of_phase_zero hp
  held := fun _ => .inl ((h.held hp).resolve_right fun ⟨_, _, hnone⟩ => ha hnone)
  windows := by
    obtain ⟨hreset, hstop, -, -⟩ := h.windows
    exact Regs.windowsCoherent_of_none rfl hreset hstop
  indices := h.indices

theorem State.pollRelease_inv {s : State} (h : s.regs.Inv) (ha : s.regs.await ≠ awaitNone) (hp : s.regs.phase = 0#3)
    (b : ButtonId) : (s.pollRelease b).regs.Inv := by
  rw [State.pollRelease_regs]
  split_ifs
  · exact h
  · exact h.release ha hp

/-! ### CTL.UPDATE -/

/-- After CTL.UPDATE the invariant is about AWAIT, RUN, TICKS and the windows only: the ports hold the most significant
digit of the cycle. -/
theorem Regs.inv_of_cycleEnd {r : Regs} (hp : r.phase = 0#3) (hs : r.SelectorLegal) {v : Nat}
    (hports : r.ports = renderPair v 3) (hwait : r.WaitCoherent) (hwindows : r.WindowsCoherent)
    (hindices : r.IndicesEqual) : r.Inv where
  selector := hs
  wait := hwait
  ports := .inr ⟨⟨_, congrArg Prod.fst hports⟩, 3, congrArg Prod.snd hports⟩
  display := Regs.displayCoherent_of_phase_zero hp
  held := fun _ => .inl (congrArg Prod.snd hports)
  windows := hwindows
  indices := hindices

theorem State.afterUpdate_ports (s : State) : s.afterUpdate.regs.ports = s.regs.ports := update_ports s

theorem State.afterUpdate_deb_idx (s : State) (b : ButtonId) : (s.afterUpdate.regs.deb b).idx = (s.sampled b).idx :=
  update_deb_idx s b

/-- One sample of each button keeps the indices equal, and no transition moves one (R93, conflict C2). -/
theorem State.afterUpdate_indicesEqual {s : State} (h : s.regs.IndicesEqual) : s.afterUpdate.regs.IndicesEqual := by
  have hidx (b : ButtonId) : (s.afterUpdate.regs.deb b).idx.val = ((s.regs.deb b).idx.val + 1) % Config.nSamples :=
    congrArg Fin.val (s.afterUpdate_deb_idx b)
  obtain ⟨hstart, hstop⟩ := h
  constructor <;> apply Fin.ext
  · exact (hidx .start).trans ((congrArg (fun i : Fin 5 => (i.val + 1) % 5) hstart).trans (hidx .stop).symm)
  · exact (hidx .stop).trans ((congrArg (fun i : Fin 5 => (i.val + 1) % 5) hstop).trans (hidx .reset).symm)

/-- Without a transition no window that a transition answers to is full. -/
theorem State.sampledRegs_coherent {s : State} (ha : s.regs.await = awaitNone)
    (hreset : (s.sampled .reset).conf = false) (hstop : s.regs.run = .running → (s.sampled .stop).conf = false) :
    s.sampledRegs.WaitCoherent ∧ s.sampledRegs.WindowsCoherent :=
  ⟨Regs.waitCoherent_of_none ha,
    Regs.windowsCoherent_of_none ha (fun hc => absurd (hreset.symm.trans hc) Bool.false_ne_true) hstop⟩

/-- Each transition clears Stop's window, the Start transition Start's too, and the Reset transition leaves RUN and
TICKS as a full Reset window asks (R95 to R97). -/
theorem State.afterUpdate_coherent {s : State} (ha : s.regs.await = awaitNone) :
    s.afterUpdate.regs.WaitCoherent ∧ s.afterUpdate.regs.WindowsCoherent := by
  cases hreset : (s.sampled .reset).conf with
  | true =>
    rw [State.afterUpdate_regs_of_reset hreset]
    exact ⟨⟨nofun, fun _ => ⟨rfl, rfl⟩⟩, fun _ => ⟨rfl, rfl⟩, nofun, fun _ => ⟨hreset, rfl⟩, nofun⟩
  | false =>
    cases hrun : s.regs.run with
    | stopped =>
      cases hstart : (s.sampled .start).conf with
      | true =>
        rw [State.afterUpdate_regs_of_start hreset hrun hstart]
        exact ⟨⟨fun _ => rfl, nofun⟩, fun hc => absurd (hreset.symm.trans hc) Bool.false_ne_true,
          fun _ => Debouncer.conf_clear (by decide) _, nofun, fun _ => ⟨rfl, rfl⟩⟩
      | false =>
        rw [State.afterUpdate_regs_of_stopped hreset hrun hstart]
        exact State.sampledRegs_coherent ha hreset fun hrunning => by cases hrun.symm.trans hrunning
    | running =>
      cases hstop : (s.sampled .stop).conf with
      | true =>
        rw [State.afterUpdate_regs_of_stop hreset hrun hstop]
        exact ⟨Regs.waitCoherent_of_none ha,
          Regs.windowsCoherent_of_none ha (fun hc => absurd (hreset.symm.trans hc) Bool.false_ne_true) nofun⟩
      | false =>
        rw [State.afterUpdate_regs_of_running hreset hrun hstop]
        exact State.sampledRegs_coherent ha hreset fun _ => hstop

/-- When CTL.UPDATE is selected, CTL.RENDER 3 has just driven the ports. -/
theorem State.afterUpdate_inv {s : State} (h : s.regs.Inv) (ha : s.regs.await = awaitNone) (hp : s.regs.phase = 4#3)
    (hs : s.afterUpdate.regs.SelectorLegal) : s.afterUpdate.regs.Inv := by
  have hports : s.afterUpdate.regs.ports = renderPair s.regs.ticks.val 3 :=
    s.afterUpdate_ports.trans (h.display 3 ha hp)
  obtain ⟨hwait, hwindows⟩ := State.afterUpdate_coherent ha
  exact Regs.inv_of_cycleEnd rfl hs hports hwait hwindows (State.afterUpdate_indicesEqual h.indices)

/-! ### Every step, every run -/

/-- Settles O43, operation by operation. -/
theorem invariantKeptByEveryStep : Obligations.InvariantKeptByEveryStep := by
  intro s t hinv h
  have hs := step_next_selectorLegal h
  rcases step_next_cases h with
    ⟨-, rfl⟩ | ⟨-, k, ha, -, rfl⟩ | ⟨-, ha, hp, rfl⟩ | ⟨-, ha, hp, rfl⟩ | ⟨-, ha, hp, rfl⟩
  · exact invariantAtReset
  · exact hinv.render ha k
  · exact State.afterUpdate_inv (s := s.nextRst) hinv ha hp hs
  · exact State.pollRelease_inv (s := s.nextRst) hinv (ha.trans_ne awaitNone_ne_awaitStart.symm) hp .start
  · exact State.pollRelease_inv (s := s.nextRst) hinv (ha.trans_ne awaitNone_ne_awaitReset.symm) hp .reset

theorem step_of_inv {s : State} (h : s.regs.Inv) : ∃ t, step s = .next t ∧ t.regs.Inv := by
  obtain ⟨t, ht⟩ := step_of_selectorLegal h.selector
  exact ⟨t, ht, invariantKeptByEveryStep s t h ht⟩

/-- Settles O45: the invariant makes the selector legal, so it carries a run of any length. -/
theorem everyFiniteRunGoesOn : Obligations.EveryFiniteRunGoesOn := fun n _ hinv =>
  stepN_keeps (P := fun s => s.regs.Inv) (fun _ => step_of_inv) n hinv

end Sys2Proof.Machine
end

section
/-! SUPPORT. The rotation of a window is hidden (10_state.md R31): every part of a step keeps two states alike but for
their indices, so their runs agree in everything outside the block. -/

namespace Sys2Proof.Machine

/-! ### The inputs of a step -/

theorem Debouncer.SameHistory.sample {N : Nat} {d e : Debouncer N} (h : d.SameHistory e) (raw : Bool) :
    (d.sample raw).SameHistory (e.sample raw) := by
  rw [Debouncer.SameHistory, Debouncer.ages_sample, Debouncer.ages_sample, h]

theorem Debouncer.SameHistory.clear {N : Nat} (d e : Debouncer N) : d.clear.SameHistory e.clear :=
  d.ages_clear.trans e.ages_clear.symm

namespace State.SameUpToIndex

variable {s t : State}

theorem conf (h : s.SameUpToIndex t) (b : ButtonId) : s.conf b = t.conf b := Debouncer.conf_congr (h.windows b)

theorem peek (h : s.SameUpToIndex t) (n : Nat) : s.peek n = t.peek n := by
  rw [State.peek, State.peek, h.answers, h.reads]

theorem rstAsserted (h : s.SameUpToIndex t) : s.rstAsserted = t.rstAsserted := by
  rw [State.rstAsserted, State.rstAsserted, State.rstAt, State.rstAt, h.rst, h.slots]

theorem selw (h : s.SameUpToIndex t) : s.regs.selw = t.regs.selw := by
  rw [Regs.selw, Regs.selw, h.await, h.phase]

theorem ports (h : s.SameUpToIndex t) : s.regs.ports = t.regs.ports := Prod.ext h.segOut h.selOut

/-! ### The writes of the state -/

theorem nextRst (h : s.SameUpToIndex t) : s.nextRst.SameUpToIndex t.nextRst :=
  { h with rst := congrArg List.tail h.rst, slots := congrArg Nat.succ h.slots }

theorem hardwareReset (h : s.SameUpToIndex t) : s.hardwareReset.SameUpToIndex t.hardwareReset :=
  { h with
    ticks := rfl, run := rfl, await := rfl, phase := rfl, segOut := rfl, selOut := rfl, windows := fun _ => rfl }

theorem setTicks (h : s.SameUpToIndex t) (v) : (s.setTicks v).SameUpToIndex (t.setTicks v) :=
  { h with ticks := rfl }

theorem setRun (h : s.SameUpToIndex t) (v) : (s.setRun v).SameUpToIndex (t.setRun v) :=
  { h with run := rfl }

theorem setAwait (h : s.SameUpToIndex t) (v) : (s.setAwait v).SameUpToIndex (t.setAwait v) :=
  { h with await := rfl }

theorem setPhase (h : s.SameUpToIndex t) (v) : (s.setPhase v).SameUpToIndex (t.setPhase v) :=
  { h with phase := rfl }

theorem writePorts (h : s.SameUpToIndex t) (p : Byte × Byte) : (s.writePorts p).SameUpToIndex (t.writePorts p) :=
  { h with
    segOut := rfl, selOut := rfl
    events := congrArg (Event.portWrite p.1 p.2 :: ·) h.events }

theorem returnPair (h : s.SameUpToIndex t) (p : Byte × Byte) : (s.returnPair p).SameUpToIndex (t.returnPair p) :=
  { h with returned := rfl }

theorem afterRead (h : s.SameUpToIndex t) (b : ButtonId) : (s.afterRead b).SameUpToIndex (t.afterRead b) :=
  { h with
    answers := congrArg List.tail h.answers, reads := congrArg Nat.succ h.reads
    events := congrArg₂ (fun v l => Event.read b v :: l) (h.peek 0) h.events }

theorem setDeb (h : s.SameUpToIndex t) (b : ButtonId) {d e : Debouncer Config.nSamples} (hd : d.SameHistory e) :
    (s.setDeb b d).SameUpToIndex (t.setDeb b e) where
  ticks := by simpa using h.ticks
  run := by simpa using h.run
  await := by simpa using h.await
  phase := by simpa using h.phase
  segOut := by simpa using h.segOut
  selOut := by simpa using h.selOut
  windows c := by
    by_cases hc : c = b
    · simpa [hc] using hd
    · simpa [hc] using h.windows c
  rst := h.rst
  slots := h.slots
  answers := h.answers
  reads := h.reads
  events := h.events
  returned := h.returned

theorem sampleDeb (h : s.SameUpToIndex t) (b : ButtonId) (raw : Bool) :
    (s.sampleDeb b raw).SameUpToIndex (t.sampleDeb b raw) := h.setDeb b ((h.windows b).sample raw)

theorem clearDeb (h : s.SameUpToIndex t) (b : ButtonId) : (s.clearDeb b).SameUpToIndex (t.clearDeb b) :=
  h.setDeb b (.clear _ _)

/-! ### The parts of the controller's operations -/

theorem tick (h : s.SameUpToIndex t) : s.tick.SameUpToIndex t.tick := by
  unfold State.tick
  rw [h.run, h.ticks]
  cases t.regs.run with
  | stopped => exact h
  | running => exact h.setTicks _

theorem sampleButton (h : s.SameUpToIndex t) (b : ButtonId) : (s.sampleButton b).SameUpToIndex (t.sampleButton b) := by
  unfold State.sampleButton
  rw [h.peek 0]
  exact (h.afterRead b).sampleDeb b _

theorem sampleButtons (h : s.SameUpToIndex t) : s.sampleButtons.SameUpToIndex t.sampleButtons :=
  ((h.sampleButton .start).sampleButton .stop).sampleButton .reset

/-- The transition is chosen by RUN and CONF, which do not read an index (R71, R94). -/
theorem transition (h : s.SameUpToIndex t) : s.transition.SameUpToIndex t.transition := by
  rcases t.transition_cases with ⟨hreset, ht⟩ | ⟨hreset, hrun, hstart, ht⟩ | ⟨hreset, hrun, hstop, ht⟩ |
    ⟨hreset, hstart, hstop, ht⟩ <;> rw [ht]
  · rw [State.transition_reset ((h.conf _).trans hreset)]
    exact (((h.setRun _).setTicks _).clearDeb _).setAwait _
  · rw [State.transition_start ((h.conf _).trans hreset) (h.run.trans hrun) ((h.conf _).trans hstart)]
    exact (((h.setRun _).clearDeb _).clearDeb _).setAwait _
  · rw [State.transition_stop ((h.conf _).trans hreset) (h.run.trans hrun) ((h.conf _).trans hstop)]
    exact (h.setRun _).clearDeb _
  · rw [State.transition_none ((h.conf _).trans hreset) (fun hrun => (h.conf _).trans (hstart (h.run.symm.trans hrun)))
      fun hrun => (h.conf _).trans (hstop (h.run.symm.trans hrun))]
    exact h

theorem pollRelease (h : s.SameUpToIndex t) (b : ButtonId) : (s.pollRelease b).SameUpToIndex (t.pollRelease b) := by
  unfold State.pollRelease
  rw [h.peek 0]
  cases t.peek 0 with
  | true => exact h.afterRead b
  | false => exact (h.afterRead b).setAwait _

end State.SameUpToIndex

/-! ### Outcomes alike but for the indices -/

/-- Two outcomes that agree in their kind and reason, and whose next states are alike but for the indices. -/
inductive OutcomesAlike : Host.Outcome State Fault Refusal → Host.Outcome State Fault Refusal → Prop where
  | next {s t : State} (h : s.SameUpToIndex t) : OutcomesAlike (.next s) (.next t)
  | fault (f : Fault) : OutcomesAlike (.fault f) (.fault f)
  | refused (r : Refusal) : OutcomesAlike (.refused r) (.refused r)

theorem exec_outcomesAlike (i : Instr) {s t : State} (h : s.SameUpToIndex t) : OutcomesAlike (exec i s) (exec i t) := by
  cases i with
  | ctlRender k =>
    have hpair : renderPair s.regs.ticks.val k = renderPair t.regs.ticks.val k := by rw [h.ticks]
    exact .next (hpair ▸ (h.writePorts _).setPhase _)
  | ctlUpdate => exact .next (h.tick.sampleButtons.transition.setPhase 0)
  | ctlAwaitStart => exact .next (h.pollRelease .start)
  | ctlAwaitReset => exact .next (h.pollRelease .reset)
  | debHold b => exact .next (h.setDeb b (h.windows b))
  | debSample b raw => exact .next (h.sampleDeb b raw)
  | debClear b => exact .next (h.clearDeb b)
  | drRender v k => exact .next (h.returnPair _)

theorem rejectOutcome_outcomesAlike (r : DecodeReject) : OutcomesAlike (rejectOutcome r) (rejectOutcome r) := by
  cases r with
  | illegalSelector w => exact .fault _
  | debCtlReserved b => exact .refused _

theorem step_outcomesAlike {s t : State} (h : s.SameUpToIndex t) : OutcomesAlike (step s) (step t) := by
  rcases t.rst_cases with hr | hr
  · rw [step_of_rst hr, step_of_rst (h.rstAsserted.trans hr)]
    exact .next h.nextRst.hardwareReset
  · have hrs := h.rstAsserted.trans hr
    cases hd : decode (.selw t.regs.selw) with
    | ok i =>
      rw [step_of_decode hr hd, step_of_selw hrs h.selw hd]
      exact exec_outcomesAlike i h.nextRst
    | error e =>
      rw [step_of_decode_error hr hd, step_of_decode_error hrs (h.selw ▸ hd)]
      exact rejectOutcome_outcomesAlike e

theorem stepN_outcomesAlike (n : Nat) {s t : State} (h : s.SameUpToIndex t) :
    OutcomesAlike (stepN n s) (stepN n t) := by
  induction n generalizing s t with
  | zero => exact .next h
  | succ n ih =>
    have hstep := step_outcomesAlike h
    unfold stepN
    cases hs : step s <;> cases ht : step t <;> rw [hs, ht] at hstep <;> cases hstep
    case next.next _ _ hnext => exact ih hnext
    case fault.fault => exact .fault _
    case refused.refused => exact .refused _

/-- Settles O47: runs of any length keep the two states alike, and the ports are among what stays alike. -/
theorem indexIsHidden : Obligations.IndexIsHidden := by
  intro n s t h
  have halike := stepN_outcomesAlike n h
  refine ⟨fun s' hs => ?next, fun f hs => ?fault⟩ <;> rw [hs] at halike
  case next =>
    cases ht : stepN n t <;> rw [ht] at halike <;> cases halike
    case next t' hsame => exact ⟨t', rfl, hsame, hsame.ports⟩
  case fault =>
    cases ht : stepN n t <;> rw [ht] at halike <;> cases halike
    rfl

end Sys2Proof.Machine
end

section
/-! SUPPORT. One refresh cycle as a whole (R86): four renders and the CTL.UPDATE that reads the buttons, and what each
transition leaves at the end of it; then the runs over a release-wait, an idle cycle and a press of N cycles. -/

namespace Sys2Proof.Machine

/-! ### The state after CTL.UPDATE -/

theorem State.afterUpdate_await (s : State) : s.afterUpdate.regs.await =
    if (s.sampled .reset).conf = true then awaitReset
    else if s.regs.run = .stopped ∧ (s.sampled .start).conf = true then awaitStart else s.regs.await := update_await s

theorem State.afterUpdate_debReset (s : State) : s.afterUpdate.regs.debReset = s.sampled .reset :=
  (State.transition_debReset _).trans (update_window s .reset)

@[simp] theorem State.afterUpdate_peek (s : State) (n) : s.afterUpdate.peek n = s.peek (n + 3) := by
  simp [State.afterUpdate, State.sampleButtons_peek]

@[simp] theorem State.afterUpdate_rstAt (s : State) (n) : s.afterUpdate.rstAt n = s.rstAt n := by
  simp [State.afterUpdate]

/-! ### One sample of a button -/

/-- A window left full confirms again after one more true sample (R128). -/
theorem State.sampled_conf_of_conf {s : State} {b : ButtonId} (hconf : s.conf b = true)
    (hpeek : s.peek b.index.val = true) : (s.sampled b).conf = true := by
  rw [State.sampled, hpeek]
  exact Debouncer.conf_sample_true hconf

theorem State.sampled_conf_of_released {s : State} {b : ButtonId} (hpeek : s.peek b.index.val = false) :
    (s.sampled b).conf = false := by
  rw [State.sampled, hpeek]
  exact Debouncer.conf_sample_false _

/-! ### The renders of a cycle leave what its CTL.UPDATE reads -/

@[simp] theorem State.afterRenders_run (s : State) (n) : (s.afterRenders n).regs.run = s.regs.run := by
  induction n with
  | zero => rfl
  | succ n ih => exact ih

@[simp] theorem State.afterRenders_peek (s : State) (n j) : (s.afterRenders n).peek j = s.peek j := by
  induction n with
  | zero => rfl
  | succ n ih => exact ih

@[simp] theorem State.afterRenders_deb (s : State) (n b) : (s.afterRenders n).regs.deb b = s.regs.deb b := by
  induction n with
  | zero => rfl
  | succ n ih => simpa [State.afterRenders, State.afterRender] using ih

/-- The state in which the CTL.UPDATE of a refresh cycle begins, its step slot spent. -/
def State.beforeUpdate (s : State) : State := (s.afterRenders 4).nextRst

@[simp] theorem State.beforeUpdate_ticks (s : State) : s.beforeUpdate.regs.ticks = s.regs.ticks :=
  s.afterRenders_ticks 4
@[simp] theorem State.beforeUpdate_run (s : State) : s.beforeUpdate.regs.run = s.regs.run :=
  s.afterRenders_run 4
@[simp] theorem State.beforeUpdate_await (s : State) : s.beforeUpdate.regs.await = s.regs.await :=
  s.afterRenders_await 4

@[simp] theorem State.beforeUpdate_sampled (s : State) (b) : s.beforeUpdate.sampled b = s.sampled b := by
  simp [State.beforeUpdate, State.sampled]

@[simp] theorem State.beforeUpdate_ticked (s : State) : s.beforeUpdate.ticked = s.ticked := by simp [State.ticked]

/-! ### The run of a cycle -/

/-- The state after CTL.RENDER 0 to 3 and CTL.UPDATE. -/
def State.afterCycle (s : State) : State := s.beforeUpdate.afterUpdate

@[simp] theorem State.afterCycle_peek (s : State) (n) : s.afterCycle.peek n = s.peek (n + 3) := by
  simp [State.afterCycle, State.beforeUpdate]

@[simp] theorem State.afterCycle_rstAt (s : State) (n) : s.afterCycle.rstAt n = s.rstAt (n + 5) := by
  simp [State.afterCycle, State.beforeUpdate, Nat.add_comm]

/-- The five steps from SELW = 00000 are a refresh cycle (R86). -/
theorem stepN_eq_afterCycle {s : State} (hw : s.regs.selw = 0b00000#5) (hr : s.RstReleasedFor 5) :
    stepN 5 s = .next s.afterCycle := by
  obtain ⟨ha, hp⟩ := (s.regs.selw_eq_iff awaitNone 0#3).1 hw
  have hrenders : stepN 4 s = .next (s.afterRenders 4) :=
    stepN_eq_afterRenders ha hp le_rfl fun j hj => hr j (by omega)
  rw [stepN_add hrenders 1, stepN_one]
  exact step_update ((s.afterRenders_rstAt 4 0).trans (hr 4 (by decide))) ((s.afterRenders_await 4).trans ha)
    (State.afterRenders_phase hp le_rfl)

/-- A cycle reached by `m` steps is run by five more. -/
theorem stepN_add_five {m : Nat} {s u : State} (h : stepN m s = .next u) (hw : u.regs.selw = 0b00000#5)
    (hr : ∀ j, j < 5 → u.rstAt j = false) : stepN (m + 5) s = .next u.afterCycle := by
  rw [stepN_add h]
  exact stepN_eq_afterCycle hw hr

/-! ### The end of a cycle -/

theorem State.afterCycle_ports (s : State) : s.afterCycle.regs.ports = renderPair s.regs.ticks.val 3 :=
  s.beforeUpdate.afterUpdate_ports.trans (by rw [← s.afterRenders_ticks 3]; rfl)

/-- AWAIT after a cycle, in terms of the windows its samples leave (R95, R97). -/
theorem State.afterCycle_await (s : State) : s.afterCycle.regs.await =
    if (s.sampled .reset).conf = true then awaitReset
    else if s.regs.run = .stopped ∧ (s.sampled .start).conf = true then awaitStart else s.regs.await :=
  s.beforeUpdate.afterUpdate_await.trans (by simp)

theorem State.afterCycle_debReset (s : State) : s.afterCycle.regs.debReset = s.sampled .reset :=
  s.beforeUpdate.afterUpdate_debReset.trans (s.beforeUpdate_sampled .reset)

theorem State.afterCycle_ticks_val {s : State} (hreset : (s.sampled .reset).conf = false) :
    s.afterCycle.regs.ticks.val = s.ticked := by
  rw [← s.beforeUpdate_ticked]
  exact State.afterUpdate_ticks_val (by rwa [State.beforeUpdate_sampled])

theorem State.afterCycle_regs_of_reset {s : State} (hreset : (s.sampled .reset).conf = true) : s.afterCycle.regs =
    { s.beforeUpdate.sampledRegs with
      run := .stopped, ticks := ⟨0, by decide⟩, await := awaitReset, debStop := (s.sampled .stop).clear } := by
  rw [← s.beforeUpdate_sampled] at hreset ⊢
  exact State.afterUpdate_regs_of_reset hreset

theorem State.afterCycle_regs_of_start {s : State} (hreset : (s.sampled .reset).conf = false)
    (hrun : s.regs.run = .stopped) (hstart : (s.sampled .start).conf = true) : s.afterCycle.regs =
    { s.beforeUpdate.sampledRegs with
      run := .running, await := awaitStart, debStart := (s.sampled .start).clear
      debStop := (s.sampled .stop).clear } := by
  simp only [← s.beforeUpdate_sampled] at hreset hstart ⊢
  exact State.afterUpdate_regs_of_start hreset (s.beforeUpdate_run.trans hrun) hstart

theorem State.afterCycle_regs_of_stopped {s : State} (hreset : (s.sampled .reset).conf = false)
    (hrun : s.regs.run = .stopped) (hstart : (s.sampled .start).conf = false) :
    s.afterCycle.regs = s.beforeUpdate.sampledRegs := by
  simp only [← s.beforeUpdate_sampled] at hreset hstart
  exact State.afterUpdate_regs_of_stopped hreset (s.beforeUpdate_run.trans hrun) hstart

theorem State.beforeUpdate_sampledRegs_ticks {s : State} (hrun : s.regs.run = .stopped) :
    s.beforeUpdate.sampledRegs.ticks = s.regs.ticks := by
  simp [State.sampledRegs, hrun]

theorem State.beforeUpdate_sampledRegs_deb (s : State) (b) : s.beforeUpdate.sampledRegs.deb b = s.sampled b := by
  rw [← s.beforeUpdate_sampled]
  cases b <;> rfl

/-- A Start transition at the end of a cycle begins the release-wait of Start and does not count (R95, R98). -/
theorem State.afterCycle_started {s : State} (hreset : (s.sampled .reset).conf = false)
    (hrun : s.regs.run = .stopped) (hstart : (s.sampled .start).conf = true) :
    s.afterCycle.regs.run = .running ∧ s.afterCycle.regs.selw = 0b01000#5 ∧
      s.afterCycle.regs.ticks = s.regs.ticks := by
  rw [State.afterCycle_regs_of_start hreset hrun hstart]
  exact ⟨rfl, (Regs.selw_eq_iff _ awaitStart 0#3).2 ⟨rfl, rfl⟩, State.beforeUpdate_sampledRegs_ticks hrun⟩

/-- A cycle while Stopped that confirms neither Reset nor Start is followed by another (R98). -/
theorem State.afterCycle_stillStopped {s : State} (hw : s.regs.selw = 0b00000#5)
    (hreset : (s.sampled .reset).conf = false) (hrun : s.regs.run = .stopped)
    (hstart : (s.sampled .start).conf = false) :
    s.afterCycle.regs.run = .stopped ∧ s.afterCycle.regs.selw = 0b00000#5 ∧
      s.afterCycle.regs.ticks = s.regs.ticks ∧ ∀ b, s.afterCycle.regs.deb b = s.sampled b := by
  have ha : s.regs.await = awaitNone := ((s.regs.selw_eq_iff awaitNone 0#3).1 hw).1
  rw [State.afterCycle_regs_of_stopped hreset hrun hstart]
  exact ⟨s.beforeUpdate_run.trans hrun, (Regs.selw_eq_iff _ awaitNone 0#3).2 ⟨s.beforeUpdate_await.trans ha, rfl⟩,
    State.beforeUpdate_sampledRegs_ticks hrun, s.beforeUpdate_sampledRegs_deb⟩

theorem State.afterRenders_selw {s : State} (hw : s.regs.selw = 0b00000#5) {j : Nat} (hj : j ≤ 4) :
    (s.afterRenders j).regs.selw = BitVec.ofNat 5 j := by
  obtain ⟨ha, hp⟩ := (s.regs.selw_eq_iff awaitNone 0#3).1 hw
  rw [(Regs.selw_eq_iff _ awaitNone (BitVec.ofNat 3 j)).2
    ⟨(s.afterRenders_await j).trans ha, State.afterRenders_phase hp hj⟩]
  have key : ∀ j : Fin 5, awaitNone ++ BitVec.ofNat 3 j.val = BitVec.ofNat 5 j.val := by decide
  exact key ⟨j, Nat.lt_succ_of_le hj⟩

theorem State.afterCycle_events (s : State) : s.afterCycle.events =
    .read .reset (s.peek 2) :: .read .stop (s.peek 1) :: .read .start (s.peek 0) ::
      (((renderSequence s.regs.ticks.val).map fun p => Event.portWrite p.1 p.2).reverse ++ s.events) := by
  refine (update_events s.beforeUpdate).trans ?_
  simp only [State.beforeUpdate, State.nextRst_peek, State.nextRst_events, State.afterRenders_peek,
    s.afterRenders_events 4]
  rfl

/-- Settles O39: four renders, then the ticks, reads and transition of CTL.UPDATE. -/
theorem refreshCycle : Obligations.RefreshCycle := by
  intro s hw hr
  obtain ⟨ha, hp⟩ := (s.regs.selw_eq_iff awaitNone 0#3).1 hw
  refine ⟨fun j hj => ⟨s.afterRenders j, ?renders, State.afterRenders_selw hw hj, s.afterRenders_ticks j⟩,
    s.afterCycle, stepN_eq_afterCycle hw hr, rfl, s.afterCycle_ports, s.afterCycle_events, ?ticks⟩
  case renders => exact stepN_eq_afterRenders ha hp hj fun i hi => hr i (by omega)
  case ticks =>
    split_ifs with hreset hrun
    · rw [State.afterCycle_regs_of_reset hreset]
    · rw [State.afterCycle_ticks_val (Bool.eq_false_of_not_eq_true hreset), State.ticked, if_pos hrun]
    · rw [State.afterCycle_ticks_val (Bool.eq_false_of_not_eq_true hreset), State.ticked, if_neg hrun]

/-! ### The cycle after the release-wait of Start -/

@[simp] theorem State.afterPolls_ticks (s : State) (b n) : (s.afterPolls b n).regs.ticks = s.regs.ticks := by
  induction n with
  | zero => rfl
  | succ n ih => exact (State.pollRelease_ticks _ b).trans ih

@[simp] theorem State.afterPolls_run (s : State) (b n) : (s.afterPolls b n).regs.run = s.regs.run := by
  induction n with
  | zero => rfl
  | succ n ih => exact (State.pollRelease_run _ b).trans ih

/-- `n` pressed polls and a released one end at the start of a refresh cycle (R90, R91, R100). -/
theorem stepN_eq_afterPolls_released {s : State} {b : ButtonId} (hw : s.regs.Awaits b) {n : Nat}
    (hr : s.RstReleasedFor (n + 1)) (hp : ∀ j, j < n → s.peek j = true) :
    stepN (n + 1) s = .next (s.afterPolls b (n + 1)) :=
  stepN_succ_eq_afterPolls hw (stepN_eq_afterPolls hw (fun j hj => hr j (by omega)) hp) (hr n (by omega)) hp

theorem Regs.Awaits.phase {r : Regs} {b : ButtonId} (hw : r.Awaits b) : r.phase = 0#3 := by
  rcases hw with ⟨-, hw⟩ | ⟨-, hw⟩
  · exact ((r.selw_eq_iff awaitStart 0#3).1 hw).2
  · exact ((r.selw_eq_iff awaitReset 0#3).1 hw).2

theorem State.afterPolls_released_selw {s : State} {b : ButtonId} (hw : s.regs.Awaits b) {n : Nat}
    (hp : ∀ j, j < n → s.peek j = true) (hreleased : s.peek n = false) :
    (s.afterPolls b (n + 1)).regs.selw = 0b00000#5 := by
  rw [State.afterPolls_succ_regs b hp hreleased]
  exact (Regs.selw_eq_iff _ awaitNone 0#3).2 ⟨rfl, hw.phase⟩

/-- The release-wait after `n` pressed polls, and the refresh cycle that follows it. -/
theorem stepN_eq_afterPolls_afterCycle {s : State} {b : ButtonId} (hw : s.regs.Awaits b) {n : Nat}
    (hr : s.RstReleasedFor (n + 6)) (hp : ∀ j, j < n → s.peek j = true) (hreleased : s.peek n = false) :
    stepN (n + 6) s = .next (s.afterPolls b (n + 1)).afterCycle := by
  have hpolls := stepN_eq_afterPolls_released hw (fun j hj => hr j (by omega)) hp
  exact stepN_add_five hpolls (State.afterPolls_released_selw hw hp hreleased) fun j hj =>
    (s.afterPolls_rstAt b (n + 1) j).trans (hr _ (by omega))

/-- Settles O38: neither the polls nor the renders write TICKS or RUN, and the CTL.UPDATE of the first cycle counts. -/
theorem startWaitDelaysCounting : Obligations.StartWaitDelaysCounting := by
  intro s n hw hrun hr hp hreleased
  have hawaits : s.regs.Awaits .start := .inl ⟨rfl, hw⟩
  have hpolls : stepN (n + 1) s = .next (s.afterPolls .start (n + 1)) :=
    stepN_eq_afterPolls_released hawaits (fun j hj => hr j (by omega)) hp
  refine ⟨fun m hm => ?frozen,
    fun hreset => ⟨_, stepN_eq_afterPolls_afterCycle hawaits hr hp hreleased, ?counts⟩⟩
  case frozen =>
    rcases Nat.lt_or_ge n m with hlt | hle
    · obtain ⟨j, rfl⟩ : ∃ j, m = n + 1 + j := Nat.exists_eq_add_of_le hlt
      have hj : j ≤ 4 := by omega
      obtain ⟨ha, hphase⟩ :=
        (Regs.selw_eq_iff _ awaitNone 0#3).1 (State.afterPolls_released_selw hawaits hp hreleased)
      have hrenders := stepN_eq_afterRenders ha hphase hj fun i hi =>
        (s.afterPolls_rstAt .start (n + 1) i).trans (hr _ (by omega))
      exact ⟨_, (stepN_add hpolls j).trans hrenders, by simp, by simp [hrun]⟩
    · exact ⟨_, stepN_eq_afterPolls hawaits (fun j hj => hr j (by omega)) fun j hj => hp j (by omega),
        by simp, by simp [hrun]⟩
  case counts =>
    have hsampled : ((s.afterPolls .start (n + 1)).sampled .reset).conf = false := by
      rw [State.sampled, State.afterPolls_succ_regs .start hp hreleased, State.afterPolls_peek]
      exact hreset
    rw [State.afterCycle_ticks_val hsampled, State.ticked, State.afterPolls_run, State.afterPolls_ticks, if_pos hrun]

/-! ### An idle cycle -/

theorem Debouncer.clear_of_win {N : Nat} {d : Debouncer N} (h : d.win = Vector.replicate N false) : d.clear = d := by
  rw [Debouncer.clear, ← h]

/-- A false sample leaves a clear window clear. -/
theorem Debouncer.sample_false_win {N : Nat} {d : Debouncer N} (h : d.win = Vector.replicate N false) :
    (d.sample false).win = Vector.replicate N false := by
  apply Vector.ext
  intro i hi
  rw [Debouncer.sample_slot]
  simp [h]

/-- Settles O40: each button is sampled released, so no window confirms and no transition is taken. -/
theorem idleCycleMovesOnlyIndices : Obligations.IdleCycleMovesOnlyIndices := by
  intro s hw hrun hr hclear hstart hstop hreset
  have hpeek (b : ButtonId) : s.peek b.index.val = false := by
    cases b with
    | start => exact hstart
    | stop => exact hstop
    | reset => exact hreset
  obtain ⟨hstopped, hselw, hticks, hdeb⟩ := State.afterCycle_stillStopped hw
    (State.sampled_conf_of_released (hpeek .reset)) hrun (State.sampled_conf_of_released (hpeek .start))
  refine ⟨s.afterCycle, stepN_eq_afterCycle hw hr, hselw, hstopped, hticks, s.afterCycle_ports, fun b => ?_⟩
  rw [hdeb, State.sampled, hpeek]
  exact ⟨Debouncer.sample_false_win (hclear b), Debouncer.sample_idx _ _⟩

/-! ### A press of N cycles -/

theorem Debouncer.samples_replicate_succ {N : Nat} (d : Debouncer N) (n : Nat) (raw : Bool) :
    d.samples (List.replicate (n + 1) raw) = (d.samples (List.replicate n raw)).sample raw := by
  simp [Debouncer.samples, List.replicate_succ']

/-- From a clear window, `N` true samples confirm and fewer do not (R74). -/
theorem Debouncer.conf_samples_replicate_iff {N : Nat} (h : 0 < N) {d : Debouncer N}
    (hd : d.win = Vector.replicate N false) (n : Nat) : (d.samples (List.replicate n true)).conf = true ↔ N ≤ n := by
  rw [← Debouncer.clear_of_win hd, Debouncer.conf_clear_samples_iff h]
  simp

/-- `t` is `s` after `n` refresh cycles that each read Start pressed and took no transition. -/
structure State.PressedFor (s : State) (n : Nat) (t : State) : Prop where
  run : stepN (5 * n) s = .next t
  stopped : t.regs.run = .stopped
  selw : t.regs.selw = 0b00000#5
  ticks : t.regs.ticks = s.regs.ticks
  debStart : t.regs.debStart = s.regs.debStart.samples (List.replicate n true)
  peek : ∀ j, t.peek j = s.peek (3 * n + j)
  rstAt : ∀ j, t.rstAt j = s.rstAt (5 * n + j)

theorem State.PressedFor.stepN_cycle {s t : State} {n : Nat} (h : s.PressedFor n t)
    (hr : s.RstReleasedFor (5 * (n + 1))) : stepN (5 * (n + 1)) s = .next t.afterCycle :=
  stepN_add_five h.run h.selw fun j hj => (h.rstAt j).trans (hr _ (by omega))

/-- The next sample of Start in a press. -/
theorem State.PressedFor.sampled_start {s t : State} {n : Nat} (h : s.PressedFor n t) (hpress : s.peek (3 * n) = true) :
    t.sampled .start = s.regs.debStart.samples (List.replicate (n + 1) true) := by
  have hpeek : t.peek 0 = true := (h.peek 0).trans hpress
  rw [Debouncer.samples_replicate_succ, ← h.debStart, ← hpeek]
  rfl

theorem State.PressedFor.sampled_reset {s t : State} {n : Nat} (h : s.PressedFor n t)
    (hreleased : s.peek (3 * n + 2) = false) : (t.sampled .reset).conf = false :=
  State.sampled_conf_of_released ((h.peek 2).trans hreleased)

theorem State.PressedFor.succ {s t : State} {n : Nat} (h : s.PressedFor n t) (hr : s.RstReleasedFor (5 * (n + 1)))
    (hclear : s.regs.debStart.win = Vector.replicate Config.nSamples false) (hn : n + 1 < Config.nSamples)
    (hpress : s.peek (3 * n) = true) (hreleased : s.peek (3 * n + 2) = false) :
    s.PressedFor (n + 1) t.afterCycle := by
  have hstart : (t.sampled .start).conf = false := by
    rw [h.sampled_start hpress, Bool.eq_false_iff, Ne, Debouncer.conf_samples_replicate_iff (by decide) hclear]
    exact Nat.not_le.2 hn
  obtain ⟨hstopped, hselw, hticks, hdeb⟩ :=
    State.afterCycle_stillStopped h.selw (h.sampled_reset hreleased) h.stopped hstart
  exact {
    run := h.stepN_cycle hr
    stopped := hstopped
    selw := hselw
    ticks := hticks.trans h.ticks
    debStart := (hdeb .start).trans (h.sampled_start hpress)
    peek := fun j => by rw [State.afterCycle_peek, h.peek]; congr 1; omega
    rstAt := fun j => by rw [State.afterCycle_rstAt, h.rstAt]; congr 1; omega }

theorem State.exists_pressedFor {s : State} (hw : s.regs.selw = 0b00000#5) (hrun : s.regs.run = .stopped)
    (hr : s.RstReleasedFor (5 * Config.nSamples))
    (hclear : s.regs.debStart.win = Vector.replicate Config.nSamples false)
    (hreads : ∀ n, n < Config.nSamples → s.peek (3 * n) = true ∧ s.peek (3 * n + 2) = false) {n : Nat}
    (hn : n < Config.nSamples) : ∃ t, s.PressedFor n t := by
  induction n with
  | zero => exact ⟨s, rfl, hrun, hw, rfl, rfl, fun j => by simp, fun j => by simp⟩
  | succ n ih =>
    obtain ⟨t, ht⟩ := ih (Nat.lt_of_succ_lt hn)
    obtain ⟨hpress, hreleased⟩ := hreads n (Nat.lt_of_succ_lt hn)
    exact ⟨_, ht.succ (fun j hj => hr j (by omega)) hclear hn hpress hreleased⟩

/-- Settles O41: the window of Start counts the cycles of the press, and confirms in the N-th. -/
theorem pressForNCyclesStarts : Obligations.PressForNCyclesStarts := by
  intro s hw hrun hr hclear hreads
  refine ⟨fun n hn => ?before, ?last⟩
  case before =>
    obtain ⟨t, ht⟩ := State.exists_pressedFor hw hrun hr hclear hreads hn
    exact ⟨t, ht.run, ht.stopped, ht.selw, ht.ticks⟩
  case last =>
    obtain ⟨t, ht⟩ := State.exists_pressedFor hw hrun hr hclear hreads (n := 4) (by decide)
    obtain ⟨hpress, hreleased⟩ := hreads 4 (by decide)
    have hstart : (t.sampled .start).conf = true := by
      rw [ht.sampled_start hpress, Debouncer.conf_samples_replicate_iff (by decide) hclear]
    obtain ⟨hrunning, hselw, hticks⟩ := State.afterCycle_started (ht.sampled_reset hreleased) ht.stopped hstart
    exact ⟨t.afterCycle, ht.stepN_cycle hr, hrunning, hselw, hticks.trans ht.ticks⟩

end Sys2Proof.Machine
end

section
/-! SUPPORT. The hazards of 70_reset_and_hazards.md section 3: the windows that a transition leaves full, and the
transition that the next sample then takes. -/

namespace Sys2Proof.Machine

theorem step_eq_afterUpdate {s : State} (hr : s.rstAsserted = false) (hw : s.regs.selw = 0b00100#5) :
    step s = .next s.nextRst.afterUpdate := step_of_selw hr hw (decode_updateRow rfl)

/-! ### Reset held through its release-wait -/

/-- A Reset transition at the end of a cycle begins the release-wait of Reset (R97). -/
theorem State.afterCycle_resetAgain {s : State} (hreset : (s.sampled .reset).conf = true) :
    s.afterCycle.regs.selw = 0b10000#5 ∧ s.afterCycle.regs.run = .stopped ∧ s.afterCycle.regs.ticks.val = 0 ∧
      s.afterCycle.regs.debReset.conf = true ∧
      s.afterCycle.regs.debStop.win = Vector.replicate Config.nSamples false := by
  have hfull : s.afterCycle.regs.debReset.conf = true := s.afterCycle_debReset ▸ hreset
  rw [State.afterCycle_regs_of_reset hreset] at hfull ⊢
  exact ⟨(Regs.selw_eq_iff _ awaitReset 0#3).2 ⟨rfl, rfl⟩, rfl, rfl, hfull, rfl⟩

/-- Without a confirmed Reset no cycle from SELW = 00000 ends in the release-wait of Reset. -/
theorem State.afterCycle_noReset {s : State} (hw : s.regs.selw = 0b00000#5)
    (hreset : (s.sampled .reset).conf = false) :
    s.afterCycle.regs.selw ≠ 0b10000#5 ∧ s.afterCycle.regs.debReset.conf = false := by
  have ha : s.regs.await = awaitNone := ((s.regs.selw_eq_iff awaitNone 0#3).1 hw).1
  refine ⟨fun hwait => ?_, s.afterCycle_debReset ▸ hreset⟩
  have hawait : s.afterCycle.regs.await = awaitReset := ((Regs.selw_eq_iff _ awaitReset 0#3).1 hwait).1
  rw [State.afterCycle_await, if_neg (by simp [hreset]), ha] at hawait
  split_ifs at hawait
  · exact absurd hawait (by decide)
  · exact awaitNone_ne_awaitReset hawait

/-- Settles O48: the poll leaves the full window, so one sample decides. -/
theorem resetRetriggersAfterOneSample : Obligations.ResetRetriggersAfterOneSample := by
  intro s hw hfull hr hreleased
  have hawaits : s.regs.Awaits .reset := .inr ⟨rfl, hw⟩
  have hpressed : ∀ j, j < 0 → s.peek j = true := nofun
  have hpeek : (s.afterPolls .reset 1).peek 2 = s.peek 3 := s.afterPolls_peek .reset 1 2
  refine ⟨_, stepN_eq_afterPolls_afterCycle hawaits hr hpressed hreleased,
    fun hpress => State.afterCycle_resetAgain ?again,
    fun hrelease => State.afterCycle_noReset (State.afterPolls_released_selw hawaits hpressed hreleased) ?not⟩
  case again =>
    have hconf : (s.afterPolls .reset 1).conf .reset = true := by
      rw [State.conf, State.afterPolls_succ_regs .reset hpressed hreleased]
      exact hfull
    exact State.sampled_conf_of_conf hconf (hpeek.trans hpress)
  case not =>
    exact State.sampled_conf_of_released (b := .reset) (hpeek.trans hrelease)

/-! ### Start held -/

/-- Settles O49: the Stop transition clears Stop's window only, and returns to SELW = 00000. -/
theorem startHeldRestartsAfterStop : Obligations.StartHeldRestartsAfterStop := by
  intro s hw hrun hr hreset hstop hstart hresetNext hpress
  have ha : s.regs.await = awaitNone := ((s.regs.selw_eq_iff awaitNone 4#3).1 hw).1
  have hstep : step s = .next s.nextRst.afterUpdate := step_eq_afterUpdate (hr 0 (by decide)) hw
  have hregs := State.afterUpdate_regs_of_stop (s := s.nextRst) hreset hrun hstop
  have hstopped : s.nextRst.afterUpdate.regs.run = .stopped := congrArg Regs.run hregs
  have hfull : s.nextRst.afterUpdate.conf .start = true := by rw [State.conf, hregs]; exact hstart
  have hselw : s.nextRst.afterUpdate.regs.selw = 0b00000#5 :=
    (Regs.selw_eq_iff _ awaitNone 0#3).2 ⟨(congrArg Regs.await hregs).trans ha, rfl⟩
  have hrst : ∀ j, j < 5 → s.nextRst.afterUpdate.rstAt j = false := fun j hj => by simp [hr (j + 1) (by omega)]
  refine ⟨⟨_, hstep, hstopped, hfull, hselw⟩,
    ⟨_, stepN_add_five ((stepN_one s).trans hstep) hselw hrst, ?restart⟩⟩
  have hstartAgain : (s.nextRst.afterUpdate.sampled .start).conf = true :=
    State.sampled_conf_of_conf hfull (by simpa [ButtonId.index] using hpress)
  have hresetAgain : (s.nextRst.afterUpdate.sampled .reset).conf = false := by
    rw [State.sampled, hregs, State.afterUpdate_peek]
    exact hresetNext
  obtain ⟨hrunning, hwait, -⟩ := State.afterCycle_started hresetAgain hstopped hstartAgain
  exact ⟨hrunning, hwait⟩

/-- The release-wait of Reset leaves Start's window, so one pressed sample after it starts. -/
theorem stepN_resetWait_starts {s : State} (hw : s.regs.selw = 0b10000#5) (hrun : s.regs.run = .stopped)
    (hr : s.RstReleasedFor 6) (hfull : s.conf .start = true) (hreleased : s.peek 0 = false) (hpress : s.peek 1 = true)
    (hresetReleased : s.peek 3 = false) :
    ∃ t, stepN 6 s = .next t ∧ t.regs.run = .running ∧ t.regs.selw = 0b01000#5 ∧ t.regs.ticks = s.regs.ticks := by
  have hawaits : s.regs.Awaits .reset := .inr ⟨rfl, hw⟩
  have hpressed : ∀ j, j < 0 → s.peek j = true := nofun
  have hpolled := State.afterPolls_succ_regs .reset hpressed hreleased
  have hconf : (s.afterPolls .reset 1).conf .start = true := by rw [State.conf, hpolled]; exact hfull
  obtain ⟨hrunning, hwait, hticks⟩ := State.afterCycle_started (s := s.afterPolls .reset 1)
    (State.sampled_conf_of_released ((s.afterPolls_peek .reset 1 2).trans hresetReleased))
    ((s.afterPolls_run .reset 1).trans hrun)
    (State.sampled_conf_of_conf hconf ((s.afterPolls_peek .reset 1 0).trans hpress))
  exact ⟨_, stepN_eq_afterPolls_afterCycle hawaits hr hpressed hreleased, hrunning, hwait,
    hticks.trans (s.afterPolls_ticks .reset 1)⟩

/-- Settles O50: the Reset transition leaves Start's window, and so does the release-wait of Reset. -/
theorem resetBeatsStartThenStartFires : Obligations.ResetBeatsStartThenStartFires := by
  intro s hw hrun hr hreset hstart hreleased hpress hresetReleased
  have hstep : step s = .next s.nextRst.afterUpdate := step_eq_afterUpdate (hr 0 (by decide)) hw
  have hregs := State.afterUpdate_regs_of_reset (s := s.nextRst) hreset
  have hselw : s.nextRst.afterUpdate.regs.selw = 0b10000#5 :=
    (Regs.selw_eq_iff _ awaitReset 0#3).2 ⟨congrArg Regs.await hregs, rfl⟩
  have hstopped : s.nextRst.afterUpdate.regs.run = .stopped := congrArg Regs.run hregs
  have hfull : s.nextRst.afterUpdate.conf .start = true := by rw [State.conf, hregs]; exact hstart
  have hrst : s.nextRst.afterUpdate.RstReleasedFor 6 := fun j hj => by simp [hr (j + 1) (by omega)]
  refine ⟨⟨_, hstep, hselw, hstopped, hfull⟩, ?starts⟩
  obtain ⟨u, hu, hrunning, hwait, hticks⟩ := stepN_resetWait_starts hselw hstopped hrst hfull
    (by simpa using hreleased) (by simpa using hpress) (by simpa using hresetReleased)
  exact ⟨u, (stepN_succ hstep 6).trans hu, hrunning, hwait, by rw [hticks, hregs]⟩

end Sys2Proof.Machine
end
